-- ==== Sys2Proof/Word.lean ====
section
/-! DEFINITION. The words of the block: bytes, 32-bit host words, 2-bit symbols, pin ids and levels
(00_scope.md R9, R11; 40_transport.md R130). -/

namespace Sys2Proof

/-- A byte; bit 7 is the most significant (R9). -/
abbrev Byte := BitVec 8

/-- A host register value or a command word (10_state.md R27). -/
abbrev Word32 := BitVec 32

/-- A waveform symbol, 0 to 3 (R11). -/
abbrev Symbol := BitVec 2

/-- A nibble carries two symbols, the first pixel's in bits 3:2 (R11). -/
abbrev Nibble := BitVec 4

/-- A pin level; `true` is 1 (40_transport.md R130). -/
abbrev Level := Bool

/-- A host GPIO pin id (10_state.md R30). -/
abbrev PinId := Nat

end Sys2Proof
end

