-- ==== Sys2Proof/Config.lean ====
section
/-! DEFINITION. What an implementation fixes (the named parameters of 00_scope.md R8, 92_eei_decisions.md and
40_transport.md R139, R140, as one record of plain data) and the free values, constants with no body. -/

namespace Sys2Proof

/-- The three panel sizes; a closed set (10_state.md R20). -/
inductive PanelSize where
  | small | medium | large
  deriving DecidableEq, Repr

/-- One value for each panel size. -/
structure PerSize (α : Type) where
  small : α
  medium : α
  large : α
  deriving DecidableEq, Repr

/-- Which input bits feed the full-refresh even half (41_pixel_mapper.md R173). -/
inductive EvenPhase where
  | low | high
  deriving DecidableEq, Repr

/-- What a full update with no previous frame and no override does (46_host_commands.md R335). -/
inductive NoPrevPolicy where
  | reject | assumeWhite
  deriving DecidableEq, Repr

/-- How stages 1 to 3 repeat under a time budget (45_timing_policy.md R310). -/
inductive TimedStageMode where
  | perStage | countFromFirst
  deriving DecidableEq, Repr

/-- COG transaction header bytes and the read filler (30_encoding.md R98, 40_transport.md R138). -/
structure Headers where
  index : Byte
  data : Byte
  read : Byte
  id : Byte
  dummy : Byte
  deriving DecidableEq, Repr

/-- COG register indices, `REG_*` of 40_transport.md R139. -/
structure CogRegs where
  channelSelect : Byte
  oe : Byte
  latch : Byte
  discharge : Byte
  chargePump : Byte
  osc : Byte
  power : Byte
  vcom : Byte
  data : Byte
  powerSaving : Byte
  status : Byte
  deriving DecidableEq, Repr

/-- COG values and status masks, `V_*`, `CPDown` and `MASK_*` of 40_transport.md R139. -/
structure CogValues where
  oeDisable : Byte
  oeLatch : Byte
  oeOff : Byte
  powerSaving : Byte
  oscOn : Byte
  power : Byte
  vcom : Byte
  latchOn : Byte
  latchOff : Byte
  latchReset : Byte
  cpPos : Byte
  cpNeg : Byte
  cpVcom : Byte
  cpDown0 : Byte
  cpDown1 : Byte
  cpDown2 : Byte
  discharge : Byte
  oscOff : Byte
  maskPanelOk : Byte
  maskDcOk : Byte
  deriving DecidableEq, Repr

/-- Placement of the scan-select pattern (41_pixel_mapper.md R172): `ScanIndex(size, r)` and `ScanShift(r)` are
tables indexed by the row. -/
structure ScanPlacement where
  index : PerSize (List Nat)
  shift : List Nat
  pattern : BitVec 2
  deriving DecidableEq, Repr

/-- The named parameters of the block. -/
structure Params where
  /-- `PinCount`: a pin id is valid iff below it. -/
  pinCount : Nat
  /-- `BlockBase`, the platform's base address of the host address map (20_memory.md R61). -/
  blockBase : Nat
  evenPhase : EvenPhase
  scan : ScanPlacement
  /-- `HasLeadingBorder(size)`. -/
  leadingBorder : PerSize Bool
  borderByte : Byte
  headers : Headers
  regs : CogRegs
  values : CogValues
  /-- `ChanSel(size)`, 8 bytes each (40_transport.md R140). -/
  chanSel : PerSize (List Byte)
  csActive : Level
  busyActive : Level
  borderPulseMs : Nat
  clockMode : Nat
  noPrevPolicy : NoPrevPolicy
  timedStageMode : TimedStageMode
  deriving DecidableEq, Repr

/-- FREE VALUE (safe): the byte an `Exchange` returns when no scripted answer is left, by draw number; R131 allows
any byte. -/
opaque Config.freeByte : Nat → Byte

/-- FREE VALUE (safe): the level a `PinRead` returns when no scripted answer is left; R131 allows any level. -/
opaque Config.freeLevel : Nat → Level

/-- FREE VALUE (safe): how far `Now` advances when no scripted answer is left; R131 asks only that `Now` never
decreases. -/
opaque Config.freeAdvance : Nat → Nat

/-- FREE VALUE (safe): what a buffer byte nothing has written since reset reads as, by reset epoch and block offset
(10_state.md R36, 70_reset_and_hazards.md R405). -/
opaque Config.unwrittenByte : Nat → Nat → Byte

/-- FREE VALUE (safe): what the 31-bit register `sweep` holds after a sweep past its greatest value, by draw number; only
a timed stage can get there (10_state.md R23, R24, 45_timing_policy.md R309; log entry 12). -/
opaque Config.sweepPastWidth : Nat → BitVec 31

end Sys2Proof
end

