-- ==== Sys2Proof/Machine/Geometry.lean ====
section
/-! DEFINITION. Panel geometry (10_state.md R20) and the choice of a per-size value. -/

namespace Sys2Proof

/-- Panel width in pixels (R6, R20). -/
def PanelSize.width : PanelSize → Nat
  | .small => 128
  | .medium => 200
  | .large => 264

/-- Panel height in pixels (R6, R20). -/
def PanelSize.height : PanelSize → Nat
  | .small => 96
  | .medium => 96
  | .large => 176

/-- `BPL = W/8` (R20). -/
def PanelSize.bytesPerLine (size : PanelSize) : Nat := size.width / 8

/-- `FB = BPL * H` (R20). -/
def PanelSize.frameBytes (size : PanelSize) : Nat := size.bytesPerLine * size.height

/-- `SB = H/4` (R20). -/
def PanelSize.scanBytes (size : PanelSize) : Nat := size.height / 4

/-- The 2-bit size code (R20). -/
def PanelSize.code : PanelSize → BitVec 2
  | .small => 0
  | .medium => 1
  | .large => 2

/-- The size of a SIZE field; code 3 is reserved (10_state.md R30). -/
def PanelSize.ofCode (c : BitVec 2) : Option PanelSize :=
  match c.toNat with
  | 0 => some .small
  | 1 => some .medium
  | 2 => some .large
  | _ => none

/-- The value for a size. -/
def PerSize.get {α : Type} (p : PerSize α) : PanelSize → α
  | .small => p.small
  | .medium => p.medium
  | .large => p.large

end Sys2Proof
end

