-- ==== Sys2Proof/Machine/Reference.lean ====
section
/-! DEFINITION. The parameter requirements of 41_pixel_mapper.md R172 and 40_transport.md R140, and the reference
parameter values of 00_scope.md R8 and 40_transport.md R139, R140 (log entries 1 and 2). -/

namespace Sys2Proof

/-- `ScanIndex(size, r)` (41_pixel_mapper.md R172). -/
def ScanPlacement.indexOf (s : ScanPlacement) (size : PanelSize) (row : Nat) : Nat := (s.index.get size).getD row 0

/-- `ScanShift(r)` (41_pixel_mapper.md R172). -/
def ScanPlacement.shiftOf (s : ScanPlacement) (row : Nat) : Nat := s.shift.getD row 0

/-- The requirements R172 makes of the scan placement of one size: `ScanIndex < SB`, `ScanShift` in 0, 2, 4, 6, and
the map from rows to pair positions one-to-one. -/
def ScanPlacement.okFor (s : ScanPlacement) (size : PanelSize) : Bool :=
  (List.range size.height).all (fun r =>
    decide (s.indexOf size r < size.scanBytes) && [0, 2, 4, 6].contains (s.shiftOf r))
  && decide (((List.range size.height).map (fun r => (s.indexOf size r, s.shiftOf r))).Nodup)

/-- The header bytes that tell frames apart differ (30_encoding.md R98). -/
def Headers.wf (h : Headers) : Bool :=
  h.index != h.data && h.index != h.read && h.index != h.id && h.data != h.read && h.data != h.id && h.read != h.id

/-- The parameters meet what the spec requires of them: R172 for the scan placement, a nonzero scan pattern, header
bytes that differ, channel-select tables of 8 bytes (R140), and 0xFF no valid pin (10_state.md R30). -/
def Params.wf (p : Params) : Bool :=
  p.scan.okFor .small && p.scan.okFor .medium && p.scan.okFor .large && p.scan.pattern != 0 && p.headers.wf
  && p.chanSel.small.length == 8 && p.chanSel.medium.length == 8 && p.chanSel.large.length == 8
  && decide (p.pinCount ≤ 255)

/-- Reference scan placement, PRESUMED [from general knowledge, not in source] (R172, G1). -/
def ScanPlacement.reference : ScanPlacement where
  index :=
    { small := (List.range 96).map (fun r => (95 - r) / 4)
      medium := (List.range 96).map (fun r => (95 - r) / 4)
      large := (List.range 176).map (fun r => (175 - r) / 4) }
  shift := (List.range 176).map (fun r => 2 * (r % 4))
  pattern := 0b11

/-- Reference headers, PRESUMED [from general knowledge, not in source] (R8, G4). -/
def Headers.reference : Headers where
  index := 0x70
  data := 0x72
  read := 0x73
  id := 0x71
  dummy := 0x00

/-- Reference register indices, PRESUMED [from general knowledge, not in source] (40_transport.md R139, G5). -/
def CogRegs.reference : CogRegs where
  channelSelect := 0x01
  oe := 0x02
  latch := 0x03
  discharge := 0x04
  chargePump := 0x05
  osc := 0x07
  power := 0x08
  vcom := 0x09
  data := 0x0A
  powerSaving := 0x0B
  status := 0x0F

/-- Reference values and masks, PRESUMED [from general knowledge, not in source] but `cpDown*`, the spec's reading
(40_transport.md R139, G5, D20). -/
def CogValues.reference : CogValues where
  oeDisable := 0x40
  oeLatch := 0x07
  oeOff := 0x05
  powerSaving := 0x02
  oscOn := 0xD1
  power := 0x02
  vcom := 0xC2
  latchOn := 0x01
  latchOff := 0x00
  latchReset := 0x01
  cpPos := 0x01
  cpNeg := 0x03
  cpVcom := 0x0F
  cpDown0 := 0x03
  cpDown1 := 0x01
  cpDown2 := 0x00
  discharge := 0x83
  oscOff := 0x0D
  maskPanelOk := 0x80
  maskDcOk := 0x40

/-- The reference parameter record of R8. `blockBase` has no reference value in the spec: DESIGN CHOICE 0 (log
entry 2). -/
def Params.reference : Params where
  pinCount := 32
  blockBase := 0
  evenPhase := .low
  scan := ScanPlacement.reference
  leadingBorder := { small := false, medium := true, large := true }
  borderByte := 0x00
  headers := Headers.reference
  regs := CogRegs.reference
  values := CogValues.reference
  chanSel :=
    { small := [0x00, 0x00, 0x00, 0x00, 0x00, 0x0F, 0xFF, 0x00]
      medium := [0x00, 0x00, 0x00, 0x00, 0x01, 0xFF, 0xE0, 0x00]
      large := [0x00, 0x00, 0x00, 0x7F, 0xFF, 0xFE, 0x00, 0x00] }
  csActive := false
  busyActive := true
  borderPulseMs := 200
  clockMode := 0
  noPrevPolicy := .reject
  timedStageMode := .perStage

end Sys2Proof
end

