-- ==== Sys2Proof/Syntax.lean ====
section
/-! DEFINITION. The instructions: one constructor per row of spec/opcode_table.json. -/

namespace Sys2Proof

/-- The six host commands (30_encoding.md R91) and the eight COG frame rows (R98, R99). Operands of a host command
other than OVR come from ARG, CFG0 and CFG1 (R92). -/
inductive Instr where
  /-- CONFIGURE (46_host_commands.md R332). -/
  | configure
  /-- SET_TIMING_FIXED (45_timing_policy.md R301). -/
  | setTimingFixed
  /-- SET_TIMING_BUDGET (45_timing_policy.md R302). -/
  | setTimingBudget
  /-- SET_TIMING_TEMP (45_timing_policy.md R303). -/
  | setTimingTemp
  /-- FULL_UPDATE with its OVR bit (43_frame_renderer.md R255). -/
  | fullUpdate (ovr : Bool)
  /-- PARTIAL_UPDATE with its OVR bit (44_partial_updater.md R282). -/
  | partialUpdate (ovr : Bool)
  /-- INDEX frame: header, register index (40_transport.md R137). -/
  | cogIndex (reg : Byte)
  /-- DATA frame: header, value (40_transport.md R137). -/
  | cogData (value : Byte)
  /-- READ frame: header, filler; the second returned byte is the register value (40_transport.md R138). -/
  | cogRead
  /-- ID frame: header, filler; the second returned byte is the chip id (40_transport.md R138). -/
  | cogId
  /-- BLOCK frame: header, 8 table bytes in order of transmission (40_transport.md R138). -/
  | cogBlock (table : List Byte)
  /-- ROW frame of SMALL (30_encoding.md R99). `even` and `odd` are indexed as `E[b]`, `O[b]`; `lead` is the leading
  border byte where the parameter asks for one, `trail` the trailing one. -/
  | cogRowSmall (lead : Option Byte) (even scan odd : List Byte) (trail : Byte)
  /-- ROW frame of MEDIUM (30_encoding.md R99). -/
  | cogRowMedium (lead : Option Byte) (even scan odd : List Byte)
  /-- ROW frame of LARGE (30_encoding.md R99). -/
  | cogRowLarge (lead : Option Byte) (even scan odd : List Byte)
  deriving DecidableEq, Repr

/-- Whether the instruction is a COG frame (as against a host command). -/
def Instr.isFrame : Instr → Bool
  | .configure | .setTimingFixed | .setTimingBudget | .setTimingTemp | .fullUpdate _ | .partialUpdate _ => false
  | .cogIndex _ | .cogData _ | .cogRead | .cogId | .cogBlock _ | .cogRowSmall .. | .cogRowMedium ..
  | .cogRowLarge .. => true

/-- Whether the instruction is FULL_UPDATE or PARTIAL_UPDATE. -/
def Instr.isUpdate : Instr → Bool
  | .fullUpdate _ | .partialUpdate _ => true
  | .configure | .setTimingFixed | .setTimingBudget | .setTimingTemp | .cogIndex _ | .cogData _ | .cogRead | .cogId
  | .cogBlock _ | .cogRowSmall .. | .cogRowMedium .. | .cogRowLarge .. => false

end Sys2Proof
end

