-- ==== Sys2Proof/WellFormed.lean ====
section
/-! DEFINITION. Which instructions are well formed: the byte counts of 30_encoding.md R98 and R99. -/

namespace Sys2Proof

/-- The three byte runs of a ROW frame have the lengths BPL, SB, BPL of the size (30_encoding.md R99). -/
def rowRunsOk (size : PanelSize) (even scan odd : List Byte) : Bool :=
  even.length == size.bytesPerLine && scan.length == size.scanBytes && odd.length == size.bytesPerLine

/-- A BLOCK frame carries 8 bytes, a ROW frame BPL even, SB scan and BPL odd bytes of its size; every other form has
no ill-formed operand (R98, R99). -/
def Instr.wf : Instr → Bool
  | .configure | .setTimingFixed | .setTimingBudget | .setTimingTemp | .fullUpdate _ | .partialUpdate _ => true
  | .cogIndex _ | .cogData _ | .cogRead | .cogId => true
  | .cogBlock table => table.length == 8
  | .cogRowSmall _ even scan odd _ => rowRunsOk .small even scan odd
  | .cogRowMedium _ even scan odd => rowRunsOk .medium even scan odd
  | .cogRowLarge _ even scan odd => rowRunsOk .large even scan odd

end Sys2Proof
end

