-- ==== Sys2Proof/Decode.lean ====
section
/-! DEFINITION. The decoder, total on any word and any bytes and rejecting by name, and the encoder
(30_encoding.md R90 to R99). -/

namespace Sys2Proof

/-- What is decoded: a command word written to CMD (R90), or the bytes of one chip-select frame in order of
transmission (R98). -/
inductive Code where
  | word (w : Word32)
  | frame (bytes : List Byte)
  deriving DecidableEq, Repr

/-- Why a code names no instruction. -/
inductive Reject where
  /-- OPCODE 0x00 or 0x07 to 0xFF (R94). -/
  | illegalOpcode
  /-- An RSV1 or RSV0 bit is set (R94). -/
  | reservedBits
  /-- OVR = 1 on CONFIGURE or a timing command (R94). -/
  | overrideNotAllowed
  /-- The frame's first byte is no header of R98, or there is none. -/
  | unknownHeader
  /-- No frame kind with this header has this length (R98, R99). -/
  | frameLength
  /-- A READ or ID frame whose second byte is not the filler (R98). -/
  | filler
  deriving DecidableEq, Repr

/-- One row of the opcode map: mask, match and the command, given the OVR bit (R91). -/
structure HostRow where
  mask : Word32
  pattern : Word32
  instr : Bool → Instr

/-- The opcode map of R91. -/
def hostRows : List HostRow :=
  [ { mask := 0xFFFFFFFF, pattern := 0x01000000, instr := fun _ => .configure },
    { mask := 0xFFFFFFFF, pattern := 0x02000000, instr := fun _ => .setTimingFixed },
    { mask := 0xFFFFFFFF, pattern := 0x03000000, instr := fun _ => .setTimingBudget },
    { mask := 0xFFFFFFFF, pattern := 0x04000000, instr := fun _ => .setTimingTemp },
    { mask := 0xFFFEFFFF, pattern := 0x05000000, instr := .fullUpdate },
    { mask := 0xFFFEFFFF, pattern := 0x06000000, instr := .partialUpdate } ]

/-- OPCODE, bits 31:24 (R90). -/
def cmdOpcode (w : Word32) : Byte := w.extractLsb' 24 8

/-- OVR, bit 16 (R90). -/
def cmdOvr (w : Word32) : Bool := w.getLsbD 16

/-- A word matches a row iff `(word & mask) == match` (R91). -/
def HostRow.hits (row : HostRow) (w : Word32) : Bool := w &&& row.mask == row.pattern

/-- Why an illegal word is illegal (R94). -/
def rejectWord (w : Word32) : Reject :=
  if cmdOpcode w = 0 ∨ 6 < (cmdOpcode w).toNat then .illegalOpcode
  else if w &&& 0x00FEFFFF ≠ 0 then .reservedBits
  else .overrideNotAllowed

/-- Decode of a command word (R91, R94). -/
def decodeWord (w : Word32) : Except Reject Instr :=
  match hostRows.find? (fun row => row.hits w) with
  | some row => .ok (row.instr (cmdOvr w))
  | none => .error (rejectWord w)

/-- The parts of a ROW frame after its header, for `n` bytes a line and `sb` scan bytes: leading border if `withLead`,
even bytes (sent in descending order), scan bytes, odd bytes, and what follows (R99). -/
def splitRow (n sb : Nat) (withLead : Bool) (rest : List Byte) :
    Option Byte × List Byte × List Byte × List Byte × List Byte :=
  let lead := if withLead then rest.head? else none
  let r := if withLead then rest.tail else rest
  (lead, (r.take n).reverse, (r.drop n).take sb, (r.drop (n + sb)).take n, r.drop (n + sb + n))

/-- Decode of a frame that starts with the data header, by its length (R98, R99): `rest` is what follows the header. -/
def decodeDataFrame (rest : List Byte) : Except Reject Instr :=
  match rest.length with
  | 1 => .ok (.cogData (rest.headD 0))
  | 8 => .ok (.cogBlock rest)
  | 57 => let (lead, e, s, o, t) := splitRow 16 24 false rest; .ok (.cogRowSmall lead e s o (t.headD 0))
  | 58 => let (lead, e, s, o, t) := splitRow 16 24 true rest; .ok (.cogRowSmall lead e s o (t.headD 0))
  | 74 => let (lead, e, s, o, _) := splitRow 25 24 false rest; .ok (.cogRowMedium lead e s o)
  | 75 => let (lead, e, s, o, _) := splitRow 25 24 true rest; .ok (.cogRowMedium lead e s o)
  | 110 => let (lead, e, s, o, _) := splitRow 33 44 false rest; .ok (.cogRowLarge lead e s o)
  | 111 => let (lead, e, s, o, _) := splitRow 33 44 true rest; .ok (.cogRowLarge lead e s o)
  | _ => .error .frameLength

/-- Decode of one chip-select frame, with the header bytes `h` (R98). -/
def decodeFrame (h : Headers) (bytes : List Byte) : Except Reject Instr :=
  match bytes with
  | [] => .error .unknownHeader
  | first :: rest =>
    if first = h.data then decodeDataFrame rest
    else if first = h.index then
      match rest with
      | [reg] => .ok (.cogIndex reg)
      | _ => .error .frameLength
    else if first = h.read then
      match rest with
      | [b] => if b = h.dummy then .ok .cogRead else .error .filler
      | _ => .error .frameLength
    else if first = h.id then
      match rest with
      | [b] => if b = h.dummy then .ok .cogId else .error .filler
      | _ => .error .frameLength
    else .error .unknownHeader

/-- Decode of any code, with the header bytes `h`. -/
def decode (h : Headers) : Code → Except Reject Instr
  | .word w => decodeWord w
  | .frame bytes => decodeFrame h bytes

/-- OVR in bit 16 of a command word (R90). -/
def ovrBit (ovr : Bool) : Word32 := if ovr then 0x00010000 else 0

/-- Bytes of a ROW frame after its header, up to the trailing border (R99): the even half descending, the odd half
ascending. -/
def rowBody (lead : Option Byte) (even scan odd : List Byte) : List Byte :=
  lead.toList ++ even.reverse ++ scan ++ odd

/-- The code of an instruction, with the header bytes `h` (R91, R98, R99). -/
def encode (h : Headers) : Instr → Code
  | .configure => .word 0x01000000
  | .setTimingFixed => .word 0x02000000
  | .setTimingBudget => .word 0x03000000
  | .setTimingTemp => .word 0x04000000
  | .fullUpdate ovr => .word (0x05000000 ||| ovrBit ovr)
  | .partialUpdate ovr => .word (0x06000000 ||| ovrBit ovr)
  | .cogIndex reg => .frame [h.index, reg]
  | .cogData value => .frame [h.data, value]
  | .cogRead => .frame [h.read, h.dummy]
  | .cogId => .frame [h.id, h.dummy]
  | .cogBlock table => .frame (h.data :: table)
  | .cogRowSmall lead even scan odd trail => .frame (h.data :: (rowBody lead even scan odd ++ [trail]))
  | .cogRowMedium lead even scan odd => .frame (h.data :: rowBody lead even scan odd)
  | .cogRowLarge lead even scan odd => .frame (h.data :: rowBody lead even scan odd)

/-- The bytes a COG frame sends, in order of transmission; none for a host command. -/
def frameBytes (h : Headers) (i : Instr) : List Byte :=
  match encode h i with
  | .frame bytes => bytes
  | .word _ => []

/-- The `n` bytes of a number, most significant first. -/
def bytesOf : Nat → Nat → List Byte
  | 0, _ => []
  | n + 1, w => BitVec.ofNat 8 (w >>> (8 * n)) :: bytesOf n w

/-- The code that a row of spec/opcode_table.json writes as the number `w` of `nbits` bits: 32 bits are a command
word; anything else is a frame whose first transmitted byte is the most significant (the table's `HDR 15:8`,
`HDR 71:64`). -/
def tableCode (nbits w : Nat) : Code :=
  if nbits = 32 then .word (BitVec.ofNat 32 w) else .frame (bytesOf (nbits / 8) w)

/-- What the decoder reads from a row's bits, with the table's header bytes (log entry 13). -/
def decodeTableWord (nbits w : Nat) : Option Instr := (decode Headers.reference (tableCode nbits w)).toOption

end Sys2Proof
end

