-- ==== Sys2Proof/Machine/Memory.lean ====
section
/-! DEFINITION. Sparse maps in one canonical form (keys strictly rising), and the byte memory over them
(20_memory.md R60, R61). -/

namespace Sys2Proof.Machine

/-- A sparse map: key and value pairs, keys strictly rising. -/
abbrev Sparse (α : Type) := List (Nat × α)

/-- The value listed for a key. -/
def sparseGet {α : Type} : Sparse α → Nat → Option α
  | [], _ => none
  | (k, v) :: m, a => if a = k then some v else sparseGet m a

/-- List a value for a key, in place. -/
def sparsePut {α : Type} : Sparse α → Nat → α → Sparse α
  | [], a, v => [(a, v)]
  | (k, w) :: m, a, v =>
    if a < k then (a, v) :: (k, w) :: m
    else if a = k then (a, v) :: m
    else (k, w) :: sparsePut m a v

/-- The canonical form: keys strictly rising. -/
abbrev SparseWf {α : Type} (m : Sparse α) : Prop := (m.map Prod.fst).Pairwise (· < ·)

/-- The buffer bytes written since reset, by block offset (20_memory.md R61). An unlisted byte has no value of its
own: what reading one does is `State.frameByte` and `State.noteRead` (log entry 5). -/
abbrev Memory := List Host.Cell

/-- The byte listed at an offset; `none` for a byte nothing has written since reset. -/
def Memory.read (m : Memory) (a : Nat) : Option Byte := sparseGet m a

/-- Write one byte. -/
def Memory.write (m : Memory) (a : Nat) (b : Byte) : Memory := sparsePut m a b

/-- The cells of consecutive bytes from an offset. -/
def cellsFrom : Nat → List Byte → Memory
  | _, [] => []
  | a, b :: bs => (a, b) :: cellsFrom (a + 1) bs

/-- Write consecutive bytes from an offset, at once. -/
def Memory.writeBlock (m : Memory) (a : Nat) (bs : List Byte) : Memory :=
  m.filter (fun c => decide (c.1 < a)) ++ cellsFrom a bs ++ m.filter (fun c => decide (a + bs.length ≤ c.1))

/-- The canonical form of memory: offsets strictly rising. No listed entry equals what an unlisted offset reads as,
since an unlisted one has no value. -/
abbrev Memory.wf (m : Memory) : Prop := SparseWf m

end Sys2Proof.Machine
end

