-- ==== Sys2Proof/Machine/State.lean ====
section
/-! DEFINITION. The state of the block (10_state.md R21, R23, R24, R27, R34, R35), of the host actions and peer answers
still to come, the reasons a step stops, and the state after reset (R36, 70_reset_and_hazards.md R401). -/

namespace Sys2Proof.Machine

/-- Why the machine stops. Every one is a state no run from reset reaches, so each is safe. -/
inductive Fault where
  /-- A COG frame, the busy poll, rendering, commit or a power-off with `cfg = none`; raised by the sequencer. Safe: no rule
  sends a frame, polls or renders without a configuration (R202). -/
  | noConfiguration
  /-- A command is running and nothing is left for it to do; raised by the sequencer. Safe: every command ends in
  `Complete` (46_host_commands.md R336, 70_reset_and_hazards.md R414). -/
  | sequencerEmpty
  /-- Rendering with no previous frame to read; raised by the renderer. Safe: VALIDATING has raised InvalidArgument
  (42_power_sequencer.md R202). -/
  | noPreviousFrame
  /-- `RunStage` with `budget = Unset`; raised by the timing controller, as 93_implementation_defined.md Part 1 row 18
  asks (45_timing_policy.md R307). Safe: VALIDATING has raised InternalError. -/
  | runStageUnsetBudget
  deriving DecidableEq, Repr

/-- Why a step gives an instruction no meaning. No meaning of this model refuses. -/
inductive Refusal where
  /-- An instruction with no meaning yet, raised by exec's arm; safe. No arm raises it. -/
  | notModelled (mnemonic : String)
  deriving DecidableEq, Repr

/-- The power-sequencer states (10_state.md R25). -/
inductive Fsm where
  | off | validating | resetting | probing | configuring | charging | ready | failed | poweringOff
  deriving DecidableEq, Repr

/-- The result codes (60_exceptions.md R361). -/
inductive ResultCode where
  | ok | invalidArgument | invalidPinConfig | invalidChipId | brokenPanel | dcFail | internalError | illegalCommand
  deriving DecidableEq, Repr

/-- The active configuration (10_state.md R21). -/
structure DriverConfig where
  size : PanelSize
  cs : PinId
  reset : PinId
  busy : PinId
  panelOn : PinId
  discharge : PinId
  border : Option PinId
  deriving DecidableEq, Repr

/-- The timing budget (45_timing_policy.md R300). -/
inductive Budget where
  | unset
  | fixed (n : Nat)
  | timeMs (t : Nat)
  deriving DecidableEq, Repr

/-- Full or partial update (46_host_commands.md R334). -/
inductive UpdateKind where
  | full | partialPass
  deriving DecidableEq, Repr

/-- A host duty broken (70_reset_and_hazards.md R412). Which agent's accesses can break which duty, where R412 names only
the host, is log entry 17. -/
inductive HostFault where
  | cmdWhileBusy | bufferWriteDuringUpdate | secondAgent
  deriving DecidableEq, Repr

/-- A read of a byte that has no value (93_implementation_defined.md Part 1 rows 1, 2). -/
inductive ReadFault where
  /-- The block read a byte nothing wrote since reset. -/
  | blockRead (offset : Nat)
  /-- The host read a byte nothing wrote since reset. -/
  | hostRead (offset : Nat)
  /-- The host read PREV while PREV_VALID = 0. -/
  | emptyPrev (offset : Nat)
  deriving DecidableEq, Repr

/-- ARG, CFG0 and CFG1 (10_state.md R29, R30). -/
structure Staging where
  arg : Word32
  cfg0 : Word32
  cfg1 : Word32
  deriving DecidableEq, Repr

/-- The working registers (10_state.md R23; widths there: 2, 31, 8, 6, 3 bits, natural, 8, 8 bits; every step keeps them in
their widths, `Work.fits`), and `firstSweeps`, the k of 45_timing_policy.md R310 (log entry 23). What `sweep` and `byteIx`
hold between the moments the rules name is log entry 31. -/
structure Work where
  stage : Nat
  sweep : Nat
  row : Nat
  byteIx : Nat
  attempt : Nat
  tStart : Nat
  chipId : Byte
  statusByte : Byte
  firstSweeps : Nat
  deriving DecidableEq, Repr

/-- A pin direction (40_transport.md R130). -/
inductive Direction where
  | output | input
  deriving DecidableEq, Repr

/-- One event of the transport log (40_transport.md R132). -/
inductive Event where
  /-- `Xchg(out, in)`. -/
  | xchg (sent received : Byte)
  /-- `Dir(p, d)`. -/
  | dir (pin : PinId) (d : Direction)
  /-- `Set(p, l)`. -/
  | set (pin : PinId) (l : Level)
  /-- `Get(p, l)`. -/
  | get (pin : PinId) (l : Level)
  /-- `Wait(ms)`. -/
  | wait (ms : Nat)
  /-- `Clock(t)`. -/
  | clock (t : Nat)
  /-- `Begin(m)`. -/
  | begin (mode : Nat)
  /-- `End`. -/
  | finish
  deriving DecidableEq, Repr

/-- Where a byte of a ROW frame comes from; evaluated when the byte is sent (43_frame_renderer.md R250). -/
inductive ByteSource where
  | const (b : Byte)
  /-- `E(b)`. -/
  | even (b : Nat)
  /-- `ScanByte(size, row, j)`. -/
  | scan (j : Nat)
  /-- `O(b)`. -/
  | odd (b : Nat)
  deriving DecidableEq, Repr

/-- One step of the sequencer's work; a running command holds those still to do, in order (10_state.md R24). -/
inductive Op where
  /-- `state <- f`. -/
  | enter (f : Fsm)
  /-- VALIDATING's checks (42_power_sequencer.md R202, R203). -/
  | validate
  /-- `PinDir(p, d)`. -/
  | pinDir (p : PinId) (d : Direction)
  /-- `PinWrite(p, l)`. -/
  | pinWrite (p : PinId) (l : Level)
  /-- `Delay(ms)`. -/
  | delay (ms : Nat)
  /-- `SessionBegin(ClockMode)`. -/
  | sessionBegin
  /-- `SessionEnd()`. -/
  | sessionEnd
  /-- One whole COG frame (30_encoding.md R98). -/
  | send (i : Instr)
  /-- The busy wait (42_power_sequencer.md R207). -/
  | busyPoll
  /-- PROBING's check (R212). -/
  | checkId
  /-- CONFIGURING's panel check (R213). -/
  | checkPanel
  /-- CHARGING starts: attempt 1 (R215). -/
  | chargeStart
  /-- The DC/DC check that ends an attempt (R215, R217). -/
  | checkDc
  /-- Rendering starts: stage 0 (43_frame_renderer.md R254). -/
  | renderStart
  /-- A stage or pass starts (45_timing_policy.md R307 to R309). -/
  | stageStart
  /-- A sweep starts: row 0 (43_frame_renderer.md R252). -/
  | sweepStart
  /-- A row transmission starts (43_frame_renderer.md R250). -/
  | rowStart
  /-- The chip-select assertion that opens a ROW frame (R250). -/
  | csAssert (cs : PinId)
  /-- One exchange of a ROW frame (R250). -/
  | exchange (src : ByteSource)
  /-- The chip-select deassertion that closes a ROW frame (R250). -/
  | csDeassert (cs : PinId)
  /-- The row is sent: the next row, or the end of the sweep (R252). -/
  | rowEnd
  /-- The sweep is sent: another, or the end of the stage (45_timing_policy.md R308, R309). -/
  | sweepEnd
  /-- The commit of PREV (43_frame_renderer.md R256). -/
  | commit
  /-- `Complete(code)` (46_host_commands.md R336). -/
  | complete (code : ResultCode)
  deriving DecidableEq, Repr

/-- The peer's answers still to come, and the last `Now` value (40_transport.md R131). When a list is empty the answer
is a free value, numbered by how many of its kind were drawn (log entries 3, 4). -/
structure Peer where
  /-- Bytes the next exchanges return. -/
  bytes : List Byte
  /-- Levels the next pin reads return. -/
  levels : List Level
  /-- How far the next clock reads advance `Now`. -/
  ticks : List Nat
  lastNow : Nat
  /-- How many free bytes, levels and advances were drawn. -/
  freeBytes : Nat
  freeLevels : Nat
  freeTicks : Nat
  deriving DecidableEq, Repr

/-- Who makes a host access (70_reset_and_hazards.md R412). -/
inductive Agent where
  | first | second
  deriving DecidableEq, Repr

/-- One access to the host port, at a platform address (20_memory.md R61, 30_encoding.md R96). -/
inductive Access where
  | read8 (address : Nat)
  | write8 (address : Nat) (value : Byte)
  | read32 (address : Nat)
  | write32 (address : Nat) (value : Word32)
  deriving DecidableEq, Repr

/-- What the host does next (log entries 9, 10). -/
inductive HostAction where
  | access (agent : Agent) (x : Access)
  /-- The block takes one step first. -/
  | yield
  /-- `wait`: read STATUS until it reads BUSY = 0 (30_encoding.md R96). -/
  | wait
  /-- The platform asserts reset after this many transport calls of a frame in progress (70_reset_and_hazards.md R400). -/
  | reset (calls : Nat)
  deriving DecidableEq, Repr

/-- What an access was answered (60_exceptions.md R373). -/
inductive Response where
  | word (v : Word32)
  | byte (v : Byte)
  | accepted
  | busError
  deriving DecidableEq, Repr

/-- The state of the machine. -/
structure State where
  /-- The named parameters (00_scope.md R8, 10_state.md R22); no step changes them (log entry 1). -/
  params : Params
  cfg : Option DriverConfig
  budget : Budget
  /-- PREV_VALID: `prev != none` (10_state.md R34). -/
  prevValid : Bool
  /-- The spec's `state` (10_state.md R25). -/
  fsm : Fsm
  busy : Bool
  lastResult : ResultCode
  session : Bool
  work : Work
  staging : Staging
  hostFault : Option HostFault
  /-- NEW, OVR and PREV (20_memory.md R60). -/
  mem : Memory
  /-- The operands captured when the running command was issued (46_host_commands.md R330). -/
  captured : Staging
  /-- The word of the command issued last (46_host_commands.md R330). -/
  command : Word32
  /-- That word is issued and not yet decoded: the block's next step fetches it (R330). -/
  pending : Bool
  /-- The running update's kind and OVR bit (46_host_commands.md R330, R334). -/
  kind : UpdateKind
  ovr : Bool
  /-- What the running command still has to do, in order (10_state.md R24). -/
  todo : List Op
  /-- The level the block last drove on each pin (10_state.md R35). -/
  pins : Sparse Level
  /-- The transport log of the current or last command, newest first (40_transport.md R132). -/
  logRev : List Event
  peer : Peer
  /-- The host actions still to come. -/
  host : List HostAction
  /-- What the host's accesses were answered, newest first. -/
  responsesRev : List Response
  /-- A read of a byte with no value was made (93_implementation_defined.md Part 1 rows 1, 2). -/
  readFault : Option ReadFault
  /-- How many resets were taken (log entry 5). -/
  epoch : Nat
  /-- How many free sweep counts were drawn (log entry 12). -/
  freeSweeps : Nat
  deriving DecidableEq, Repr

/-- The working registers before a command writes them: DESIGN CHOICE zero (R23 leaves them unspecified; log
entry 6). -/
def Work.initial : Work where
  stage := 0
  sweep := 0
  row := 0
  byteIx := 0
  attempt := 0
  tStart := 0
  chipId := 0
  statusByte := 0
  firstSweeps := 0

/-- The staging registers after reset (10_state.md R27). -/
def Staging.initial : Staging where
  arg := 0x00000000
  cfg0 := 0xFFFFFFFF
  cfg1 := 0x0000FFFF

/-- A peer with no scripted answer: every answer is a free value. -/
def Peer.initial : Peer where
  bytes := []
  levels := []
  ticks := []
  lastNow := 0
  freeBytes := 0
  freeLevels := 0
  freeTicks := 0

/-- The machine right after reset (10_state.md R36, 70_reset_and_hazards.md R401). `params`, `work`, `captured`, `command`,
`kind`, `ovr`, `peer`, `host`, `responsesRev`, `epoch` and `freeSweeps` have no reset value in the spec (log entries 1, 2, 6,
7, 26). -/
def State.reset : State where
  params := Params.reference
  cfg := none
  budget := .unset
  prevValid := false
  fsm := .off
  busy := false
  lastResult := .ok
  session := false
  work := Work.initial
  staging := Staging.initial
  hostFault := none
  mem := []
  captured := Staging.initial
  command := 0x00000000
  pending := false
  kind := .full
  ovr := false
  todo := []
  pins := []
  logRev := []
  peer := Peer.initial
  host := []
  responsesRev := []
  readFault := none
  epoch := 0
  freeSweeps := 0

end Sys2Proof.Machine
end

