-- ==== Sys2Proof/Machine/Ops.lean ====
section
/-! DEFINITION. The named operations: the transport capability and its log (40_transport.md R130 to R134), COG frames
(R136 to R138), frame-buffer reads and the commit write (20_memory.md R70), and raising an error (60_exceptions.md
R360, R365) with the completion of a command (46_host_commands.md R336). -/

namespace Sys2Proof.Machine

/-- The state after a step that always has one. -/
abbrev Result := Host.Outcome State Fault Refusal

/-- The transport log in call order (40_transport.md R132). -/
def State.log (s : State) : List Event := s.logRev.reverse

/-- The host's answers in order. -/
def State.responses (s : State) : List Response := s.responsesRev.reverse

/-- Append one event to the log (R132). -/
def State.record (s : State) (e : Event) : State := { s with logRev := e :: s.logRev }

/-- Set the power-sequencer state (10_state.md R25). -/
def State.enter (s : State) (f : Fsm) : State := { s with fsm := f }

/-- Set what the running command still has to do. -/
def State.plan (s : State) (ops : List Op) : State := { s with todo := ops }

/-- Record an access's answer. -/
def State.respond (s : State) (r : Response) : State := { s with responsesRev := r :: s.responsesRev }

/-- The byte the `k`-th next exchange returns: scripted, else a free value (40_transport.md R131). -/
def Peer.byteAt (p : Peer) (k : Nat) : Byte :=
  match p.bytes[k]? with
  | some b => b
  | none => Config.freeByte (p.freeBytes + (k - p.bytes.length))

/-- The level the next pin read returns (40_transport.md R131). -/
def Peer.nextLevel (p : Peer) : Level :=
  match p.levels with
  | l :: _ => l
  | [] => Config.freeLevel p.freeLevels

/-- The value the next `Now` returns: the last one, advanced by a natural (R131: it never decreases). -/
def Peer.nextNow (p : Peer) : Nat :=
  p.lastNow + match p.ticks with
    | t :: _ => t
    | [] => Config.freeAdvance p.freeTicks

/-- The peer after one exchange. -/
def Peer.tookByte (p : Peer) : Peer :=
  match p.bytes with
  | _ :: bs => { p with bytes := bs }
  | [] => { p with freeBytes := p.freeBytes + 1 }

/-- The peer after one pin read. -/
def Peer.tookLevel (p : Peer) : Peer :=
  match p.levels with
  | _ :: ls => { p with levels := ls }
  | [] => { p with freeLevels := p.freeLevels + 1 }

/-- The peer after one clock read. -/
def Peer.tookNow (p : Peer) : Peer :=
  match p.ticks with
  | _ :: ts => { p with ticks := ts, lastNow := p.nextNow }
  | [] => { p with freeTicks := p.freeTicks + 1, lastNow := p.nextNow }

/-- `Exchange(b)`: the received byte is `s.peer.byteAt 0` (R130, R131). -/
def State.exchange (s : State) (b : Byte) : State :=
  { s with peer := s.peer.tookByte, logRev := .xchg b (s.peer.byteAt 0) :: s.logRev }

/-- `PinDir(p, d)` (R130). -/
def State.pinDir (s : State) (p : PinId) (d : Direction) : State := s.record (.dir p d)

/-- `PinWrite(p, l)`: the level last driven on the pin is `l` (R130, 10_state.md R35). -/
def State.pinWrite (s : State) (p : PinId) (l : Level) : State :=
  { s with pins := sparsePut s.pins p l, logRev := .set p l :: s.logRev }

/-- `PinRead(p)`: the level read is `s.peer.nextLevel` (R130, R131). -/
def State.pinRead (s : State) (p : PinId) : State :=
  { s with peer := s.peer.tookLevel, logRev := .get p s.peer.nextLevel :: s.logRev }

/-- `Delay(ms)` (R130, R133). -/
def State.delay (s : State) (ms : Nat) : State := s.record (.wait ms)

/-- `Now()`: the value read is `s.peer.nextNow` (R130, R131). -/
def State.readClock (s : State) : State :=
  { s with peer := s.peer.tookNow, logRev := .clock s.peer.nextNow :: s.logRev }

/-- `SessionBegin(ClockMode)` (R134). -/
def State.sessionBegin (s : State) : State :=
  { s with session := true, logRev := .begin s.params.clockMode :: s.logRev }

/-- `SessionEnd()` (R134). -/
def State.sessionEnd (s : State) : State := { s with session := false, logRev := .finish :: s.logRev }

/-- `CsAssert()` on the pin `cs` (40_transport.md R136). -/
def State.csAssert (s : State) (cs : PinId) : State := s.pinWrite cs s.params.csActive

/-- `CsDeassert()` on the pin `cs` (R136). -/
def State.csDeassert (s : State) (cs : PinId) : State := s.pinWrite cs (!s.params.csActive)

/-- One transport call of a chip-select frame. -/
inductive FrameCall where
  | assert
  | exchange (b : Byte)
  | deassert
  deriving DecidableEq, Repr

/-- The calls of one chip-select frame of these bytes: assert, the exchanges, deassert (30_encoding.md R98,
40_transport.md R137, R138). -/
def frameCalls (bytes : List Byte) : List FrameCall := .assert :: (bytes.map .exchange ++ [.deassert])

/-- One call of a frame on the chip-select pin `cs`. -/
def State.frameCall (cs : PinId) (s : State) : FrameCall → State
  | .assert => s.csAssert cs
  | .exchange b => s.exchange b
  | .deassert => s.csDeassert cs

/-- Calls of a frame, in order. -/
def State.frameRun (s : State) (cs : PinId) (calls : List FrameCall) : State := calls.foldl (State.frameCall cs) s

/-- Send one whole chip-select frame (R136 to R138). -/
def State.sendFrame (s : State) (cs : PinId) (bytes : List Byte) : State := s.frameRun cs (frameCalls bytes)

/-- The byte the last exchange of a sent frame of `n` bytes returns: the `n`-th answer counted from the frame's
start. -/
def State.lastByteOf (s : State) (n : Nat) : Byte := s.peer.byteAt (n - 1)

/-- Send the frame of a COG instruction, then do `after` with the byte its last exchange returned; with no
configuration there is no chip-select pin to frame it with (R136; log entry 15). -/
def sendInstr (i : Instr) (after : Byte → State → State) (s : State) : Result :=
  match s.cfg with
  | none => .fault .noConfiguration
  | some c =>
    let bytes := frameBytes s.params.headers i
    .next (after (s.lastByteOf bytes.length) (s.sendFrame c.cs bytes))

/-! ### Frame buffers -/

/-- `MaxFB` (20_memory.md R60). -/
def maxFrameBytes : Nat := 5808

/-- Block offset of the NEW buffer (20_memory.md R61). -/
def newBase : Nat := 0x10000

/-- Block offset of the OVR buffer (R61). -/
def ovrBase : Nat := 0x20000

/-- Block offset of the PREV buffer (R61). -/
def prevBase : Nat := 0x30000

/-- What a frame is read from (43_frame_renderer.md R251): a buffer by its block offset, or the constant ZERO frame of
46_host_commands.md R335. -/
inductive FrameSource where
  | buffer (base : Nat)
  | zero
  deriving DecidableEq, Repr

/-- The byte at a block offset of a buffer: as last written since reset, else a free value (log entry 5). -/
def State.bufferByte (s : State) (a : Nat) : Byte :=
  match s.mem.read a with
  | some b => b
  | none => Config.unwrittenByte s.epoch a

/-- `MemRead(space, i, 1)` (20_memory.md R70). -/
def State.frameByte (s : State) (src : FrameSource) (i : Nat) : Byte :=
  match src with
  | .buffer base => s.bufferByte (base + i)
  | .zero => 0

/-- Record the block's read of a byte that nothing wrote since reset (70_reset_and_hazards.md R405; 93 Part 1 row 1). -/
def State.noteRead (s : State) (src : FrameSource) (i : Nat) : State :=
  match src with
  | .buffer base =>
    match s.mem.read (base + i) with
    | some _ => s
    | none => { s with readFault := some (.blockRead (base + i)) }
  | .zero => s

/-- The first `n` bytes of NEW. -/
def State.newFrame (s : State) (n : Nat) : List Byte := (List.range n).map (fun i => s.bufferByte (newBase + i))

/-- `Commit()`: `PREV[i] <- NEW[i]` for `0 <= i < FB`, and PREV_VALID 1, in one step (43_frame_renderer.md R256). -/
def State.commitPrev (s : State) (size : PanelSize) : State :=
  { s with mem := s.mem.writeBlock prevBase (s.newFrame size.frameBytes), prevValid := true }

/-! ### Completion and errors -/

/-- `Complete(code)`: the result and BUSY change in one step (46_host_commands.md R336). -/
def State.complete (s : State) (code : ResultCode) : State :=
  { s with lastResult := code, busy := false, todo := [] }

/-- A command body that ended: `Complete(code)` is all that is left (46_host_commands.md R330). -/
def State.endWith (s : State) (code : ResultCode) : State := s.plan [.complete code]

/-- `raise Error(kind)` before any transport access: no later step of the body runs, and the command completes with
`kind` (60_exceptions.md R360, R365). -/
def State.raise (s : State) (code : ResultCode) : State := s.endWith code

/-- `Fail(kind)` with the power-off program given: `state <- FAILED`, the whole power-off, then the command completes
with `kind` (42_power_sequencer.md R218, 60_exceptions.md R365). -/
def State.fail (s : State) (powerOff : List Op) (code : ResultCode) : State :=
  (s.enter .failed).plan (powerOff ++ [.complete code])

end Sys2Proof.Machine
end

