-- ==== Sys2Proof/Machine/Operands.lean ====
section
/-! DEFINITION. The operands of the host commands: the captured ARG, the fields of CFG0 and CFG1, and the previous frame
(30_encoding.md R92, R93; 10_state.md R30; 46_host_commands.md R331, R335). -/

namespace Sys2Proof.Machine

/-- ARG as captured, read as a two's-complement integer (30_encoding.md R92). -/
def State.argValue (s : State) : Int := s.captured.arg.toInt

/-- `PIN_CS`, CFG0 [7:0] (10_state.md R30). -/
def Staging.pinCs (g : Staging) : PinId := (g.cfg0.extractLsb' 0 8).toNat

/-- `PIN_RESET`, CFG0 [15:8] (R30). -/
def Staging.pinReset (g : Staging) : PinId := (g.cfg0.extractLsb' 8 8).toNat

/-- `PIN_BUSY`, CFG0 [23:16] (R30). -/
def Staging.pinBusy (g : Staging) : PinId := (g.cfg0.extractLsb' 16 8).toNat

/-- `PIN_PANEL_ON`, CFG0 [31:24] (R30). -/
def Staging.pinPanelOn (g : Staging) : PinId := (g.cfg0.extractLsb' 24 8).toNat

/-- `PIN_DISCHARGE`, CFG1 [7:0] (R30). -/
def Staging.pinDischarge (g : Staging) : PinId := (g.cfg1.extractLsb' 0 8).toNat

/-- `PIN_BORDER`, CFG1 [15:8] (R30). -/
def Staging.pinBorder (g : Staging) : PinId := (g.cfg1.extractLsb' 8 8).toNat

/-- `SIZE`, CFG1 [17:16] (R30). -/
def Staging.sizeCode (g : Staging) : BitVec 2 := g.cfg1.extractLsb' 16 2

/-- A pin field names a pin: not 0xFF ("unassigned") and below `PinCount` (R30, 46_host_commands.md R331). -/
def pinOk (p : Params) (f : PinId) : Bool := f != 0xFF && decide (f < p.pinCount)

/-- The border role of a configuration: required for LARGE, dropped for the other sizes (R331); `none` when the check
fails. -/
def borderOf (p : Params) (size : PanelSize) (f : PinId) : Option (Option PinId) :=
  match size with
  | .large => if pinOk p f then some (some f) else none
  | .small | .medium => some none

/-- `ConfigFromStaging()`: the configuration the captured CFG0 and CFG1 stage, or `none` where it raises
InvalidPinConfig (46_host_commands.md R331). -/
def Staging.config (p : Params) (g : Staging) : Option DriverConfig :=
  match PanelSize.ofCode g.sizeCode with
  | none => none
  | some size =>
    if pinOk p g.pinCs && pinOk p g.pinReset && pinOk p g.pinBusy && pinOk p g.pinPanelOn && pinOk p g.pinDischarge then
      match borderOf p size g.pinBorder with
      | none => none
      | some border =>
        some
          { size := size
            cs := g.pinCs
            reset := g.pinReset
            busy := g.pinBusy
            panelOn := g.pinPanelOn
            discharge := g.pinDischarge
            border := border }
    else none

/-- `PrevSource(kind)`: the override, else the stored previous frame, else what `NoPrevPolicy` says for a full update
(46_host_commands.md R335, 44_partial_updater.md R283). -/
def State.prevSource (s : State) : Option FrameSource :=
  if s.ovr then some (.buffer ovrBase)
  else if s.prevValid then some (.buffer prevBase)
  else
    match s.kind, s.params.noPrevPolicy with
    | .full, .assumeWhite => some .zero
    | .full, .reject => none
    | .partialPass, _ => none

end Sys2Proof.Machine
end

