-- ==== Sys2Proof/Machine/CogFrames.lean ====
section
/-! DEFINITION. The meanings of the COG frames: each sends its bytes in one chip-select frame (30_encoding.md R98, R99;
40_transport.md R136 to R138); READ and ID also keep the byte their second exchange returned (10_state.md R23). -/

namespace Sys2Proof.Machine

/-- COG_INDEX: `Cmd2(HdrIndex, reg)` (40_transport.md R137). -/
def execCogIndex (reg : Byte) (s : State) : Result := sendInstr (.cogIndex reg) (fun _ t => t) s

/-- COG_DATA: `Cmd2(HdrData, value)` (R137). -/
def execCogData (value : Byte) (s : State) : Result := sendInstr (.cogData value) (fun _ t => t) s

/-- COG_READ: the second returned byte goes to `statusByte` (R138; 42_power_sequencer.md R213, R215). -/
def execCogRead (s : State) : Result :=
  sendInstr .cogRead (fun r t => { t with work := { t.work with statusByte := r } }) s

/-- COG_ID: the second returned byte goes to `chipId` (R138; 42_power_sequencer.md R211). -/
def execCogId (s : State) : Result :=
  sendInstr .cogId (fun r t => { t with work := { t.work with chipId := r } }) s

/-- COG_BLOCK: the data header and the table's bytes in one frame (R138). -/
def execCogBlock (table : List Byte) (s : State) : Result := sendInstr (.cogBlock table) (fun _ t => t) s

/-- COG_ROW_SMALL: the ROW frame of SMALL (30_encoding.md R99, 43_frame_renderer.md R250). -/
def execCogRowSmall (lead : Option Byte) (even scan odd : List Byte) (trail : Byte) (s : State) : Result :=
  sendInstr (.cogRowSmall lead even scan odd trail) (fun _ t => t) s

/-- COG_ROW_MEDIUM: the ROW frame of MEDIUM (R99, R250). -/
def execCogRowMedium (lead : Option Byte) (even scan odd : List Byte) (s : State) : Result :=
  sendInstr (.cogRowMedium lead even scan odd) (fun _ t => t) s

/-- COG_ROW_LARGE: the ROW frame of LARGE (R99, R250). -/
def execCogRowLarge (lead : Option Byte) (even scan odd : List Byte) (s : State) : Result :=
  sendInstr (.cogRowLarge lead even scan odd) (fun _ t => t) s

end Sys2Proof.Machine
end

