-- ==== Sys2Proof/Machine/PixelMapper.lean ====
section
/-! DEFINITION. The pixel bit-mapper, pure functions (41_pixel_mapper.md). -/

namespace Sys2Proof.Machine

/-- `sym(bit, W, B)`: black for 1, white for 0 (R161). -/
def sym (bit : Bool) (w b : Symbol) : Symbol := if bit then b else w

/-- `LUTe(W, B)[i]`: at indices 0, 1, 4, 5 the symbols of index bits 2 and 0, first the one of bit 2; the packed
nibbles of indices 2, 3, 6, 7 are 0 and never read (R162). -/
def lutEven (w b : Symbol) (i : BitVec 3) : Nibble :=
  if i.getLsbD 1 then 0 else sym (i.getLsbD 2) w b ++ sym (i.getLsbD 0) w b

/-- `LUTo(W, B)[i]`: the same entries with the symbols in the other order (R163). -/
def lutOdd (w b : Symbol) (i : BitVec 3) : Nibble :=
  if i.getLsbD 1 then 0 else sym (i.getLsbD 0) w b ++ sym (i.getLsbD 2) w b

/-- A table packed as one word: entry `i` at bits `4i+3:4i`, entries 0, 1, 4, 5 (R162, R163). -/
def packLut (t : BitVec 3 → Nibble) : Word32 :=
  (t 0).setWidth 32 ||| (t 1).setWidth 32 <<< 4 ||| (t 4).setWidth 32 <<< 16 ||| (t 5).setWidth 32 <<< 20

/-- The "3-bit-to-4-bit extraction" from a packed table: `(T >> (4*i)) & 0xF` (R162). -/
def extractLut (t : Word32) (i : BitVec 3) : Nibble := (t >>> (4 * i.toNat)).setWidth 4

/-- The masked index `(d >> k) & 0b101` (R164, R165). -/
def maskIndex (d : Byte) (k : Nat) : BitVec 3 := ((d >>> k) &&& 0b101).setWidth 3

/-- `MapEven(d, W, B)` (R164), and its `EvenPhase = HIGH` form (R173). -/
def mapEven (phase : EvenPhase) (d : Byte) (w b : Symbol) : Byte :=
  match phase with
  | .low => lutEven w b (maskIndex d 4) ++ lutEven w b (maskIndex d 0)
  | .high => lutEven w b (maskIndex d 5) ++ lutEven w b (maskIndex d 1)

/-- `MapOdd(d, W, B)` (R165), and its `EvenPhase = HIGH` form (R173). -/
def mapOdd (phase : EvenPhase) (d : Byte) (w b : Symbol) : Byte :=
  match phase with
  | .low => lutOdd w b (maskIndex d 1) ++ lutOdd w b (maskIndex d 5)
  | .high => lutOdd w b (maskIndex d 0) ++ lutOdd w b (maskIndex d 4)

/-- `mapWhiteTo` of the four stages (R167). -/
def stageWhite (stage : Nat) : Symbol :=
  match stage with
  | 0 => 3
  | 1 => 2
  | 2 => 3
  | _ => 2

/-- `mapBlackTo` of the four stages (R167). -/
def stageBlack (stage : Nat) : Symbol :=
  match stage with
  | 0 => 2
  | 1 => 0
  | 2 => 0
  | _ => 3

/-- `PartialEven(o, n)` (R168). -/
def partialEven (o n : Byte) : Byte := (((o ^^^ n) &&& 0x55) <<< 1) ||| (n &&& 0x55)

/-- `SwapPairs(x)` (R169). -/
def swapPairs (x : Byte) : Byte := ((x &&& 0x33) <<< 2) ||| ((x &&& 0xCC) >>> 2)

/-- `SwapNibbles(x)` (R169). -/
def swapNibbles (x : Byte) : Byte := ((x &&& 0x0F) <<< 4) ||| ((x &&& 0xF0) >>> 4)

/-- `PartialOdd(o, n)` (R169). -/
def partialOdd (o n : Byte) : Byte := swapNibbles (swapPairs (((o ^^^ n) &&& 0xAA) ||| ((n &&& 0xAA) >>> 1)))

/-- `ScanByte(size, r, j)` (R172). -/
def scanByte (p : ScanPlacement) (size : PanelSize) (row j : Nat) : Byte :=
  if j = p.indexOf size row then p.pattern.setWidth 8 <<< p.shiftOf row else 0

end Sys2Proof.Machine
end

