-- ==== Sys2Proof/Machine/PowerSequencer.lean ====
section
/-! DEFINITION. The power-sequence FSM as programs of sequencer steps: RESETTING, PROBING, CONFIGURING, CHARGING, READY and
the power-off, and the checks between them (42_power_sequencer.md). -/

namespace Sys2Proof.Machine

/-- `RegWrite(reg, v)` (40_transport.md R138). -/
def regWrite (reg v : Byte) : List Op := [.send (.cogIndex reg), .send (.cogData v)]

/-- `RegRead(reg)`; the returned byte goes to `statusByte` (R138). -/
def regRead (reg : Byte) : List Op := [.send (.cogIndex reg), .send .cogRead]

/-- `RegWriteBlock(reg, t)` (R138). -/
def regWriteBlock (reg : Byte) (table : List Byte) : List Op := [.send (.cogIndex reg), .send (.cogBlock table)]

/-- Steps on the border pin, which only LARGE has (40_transport.md R142). -/
def borderOps (c : DriverConfig) (ops : PinId → List Op) : List Op :=
  match c.size, c.border with
  | .large, some b => ops b
  | _, _ => []

/-- Pin directions and the session (42_power_sequencer.md R204). -/
def directionOps (c : DriverConfig) : List Op :=
  [.pinDir c.cs .output, .pinDir c.reset .output, .pinDir c.panelOn .output, .pinDir c.discharge .output]
  ++ borderOps c (fun b => [.pinDir b .output])
  ++ [.pinDir c.busy .input, .sessionBegin]

/-- Idle levels (R205). -/
def idleLevelOps (p : Params) (c : DriverConfig) : List Op :=
  [.pinWrite c.panelOn true, .pinWrite c.cs (!p.csActive), .pinWrite c.reset true, .pinWrite c.discharge false]
  ++ borderOps c (fun b => [.pinWrite b true])

/-- The reset pulse (R206). -/
def resetPulseOps (c : DriverConfig) : List Op :=
  [.delay 5, .pinWrite c.reset false, .delay 5, .pinWrite c.reset true, .delay 5]

/-- RESETTING (R204 to R207). -/
def resettingOps (p : Params) (c : DriverConfig) : List Op :=
  directionOps c ++ idleLevelOps p c ++ resetPulseOps c ++ [.busyPoll, .enter .probing]

/-- PROBING (R211, R212). -/
def probingOps : List Op := [.send .cogId, .checkId, .enter .configuring]

/-- CONFIGURING (R213, R214). -/
def configuringOps (p : Params) (c : DriverConfig) : List Op :=
  regWrite p.regs.oe p.values.oeDisable ++ regRead p.regs.status ++ [.checkPanel]
  ++ regWrite p.regs.powerSaving p.values.powerSaving
  ++ regWriteBlock p.regs.channelSelect (p.chanSel.get c.size)
  ++ regWrite p.regs.osc p.values.oscOn ++ regWrite p.regs.power p.values.power ++ regWrite p.regs.vcom p.values.vcom
  ++ regWrite p.regs.latch p.values.latchOn ++ regWrite p.regs.latch p.values.latchOff
  ++ [.delay 5, .enter .charging]

/-- One charge-pump attempt (R215). -/
def chargeAttemptOps (p : Params) : List Op :=
  regWrite p.regs.chargePump p.values.cpPos ++ [.delay 150]
  ++ regWrite p.regs.chargePump p.values.cpNeg ++ [.delay 90]
  ++ regWrite p.regs.chargePump p.values.cpVcom ++ [.delay 40]
  ++ regRead p.regs.status ++ [.checkDc]

/-- Ready (R216). -/
def readyOps (p : Params) : List Op := regWrite p.regs.oe p.values.oeDisable ++ [.enter .ready]

/-- `PowerOff()` (R220). -/
def powerOffOps (p : Params) (c : DriverConfig) : List Op :=
  [.enter .poweringOff]
  ++ borderOps c (fun b => [.pinWrite b false, .delay p.borderPulseMs, .pinWrite b true])
  ++ regWrite p.regs.oe p.values.oeOff ++ regWrite p.regs.latch p.values.latchReset
  ++ regWrite p.regs.chargePump p.values.cpDown0 ++ regWrite p.regs.chargePump p.values.cpDown1
  ++ regWrite p.regs.chargePump p.values.cpDown2
  ++ [.delay 300]
  ++ regWrite p.regs.discharge p.values.discharge ++ regWrite p.regs.osc p.values.oscOff
  ++ [.sessionEnd, .delay 50, .pinWrite c.panelOn false, .pinWrite c.reset false, .pinWrite c.cs false]
  ++ borderOps c (fun b => [.pinWrite b false])
  ++ [.pinWrite c.discharge true, .delay 150, .pinWrite c.discharge false, .enter .off]

/-- What an update does after VALIDATING: power-up, rendering, power-off, commit, completion (R200, 46_host_commands.md
R334). -/
def updateOps (p : Params) (c : DriverConfig) : List Op :=
  resettingOps p c ++ probingOps ++ configuringOps p c ++ [.chargeStart] ++ readyOps p ++ [.renderStart]
  ++ powerOffOps p c ++ [.commit, .complete .ok]

/-- VALIDATING's error exit: `state <- OFF`, then the error, with no transport operation (R202). -/
def State.rejectUpdate (s : State) (code : ResultCode) : State := (s.enter .off).raise code

/-- VALIDATING: configuration, previous frame, budget, in this order (R202, R203). -/
def runValidate (s : State) : State :=
  match s.cfg with
  | none => s.rejectUpdate .invalidPinConfig
  | some c =>
    match s.prevSource with
    | none => s.rejectUpdate .invalidArgument
    | some _ =>
      match s.budget with
      | .unset => s.rejectUpdate .internalError
      | .fixed _ | .timeMs _ => (s.enter .resetting).plan (updateOps s.params c)

/-- The busy wait: read the pin; while it reads active, `Delay(1)` and read again (R207). -/
def runBusyPoll (c : DriverConfig) (rest : List Op) (s : State) : State :=
  if s.peer.nextLevel = s.params.busyActive then (s.pinRead c.busy).plan (.delay 1 :: .busyPoll :: rest)
  else (s.pinRead c.busy).plan rest

/-- `Fail(kind)` of an update with the configuration `c` (R218). -/
def State.failUpdate (s : State) (c : DriverConfig) (code : ResultCode) : State := s.fail (powerOffOps s.params c) code

/-- The accepted chip identifier, fixed by the source (40_transport.md R141). -/
def acceptedChipId : Byte := 0x12

/-- PROBING's check (R212). -/
def runCheckId (c : DriverConfig) (rest : List Op) (s : State) : State :=
  if s.work.chipId = acceptedChipId then s.plan rest else s.failUpdate c .invalidChipId

/-- CONFIGURING's panel check (R213). -/
def runCheckPanel (c : DriverConfig) (rest : List Op) (s : State) : State :=
  if s.work.statusByte &&& s.params.values.maskPanelOk = 0 then s.failUpdate c .brokenPanel else s.plan rest

/-- CHARGING starts its first attempt (R215). -/
def runChargeStart (rest : List Op) (s : State) : State :=
  { s with work := { s.work with attempt := 1 }, todo := chargeAttemptOps s.params ++ rest }

/-- The DC/DC check: ready, another attempt, or DcFail after the fourth (R215 to R217). -/
def runCheckDc (c : DriverConfig) (rest : List Op) (s : State) : State :=
  if s.work.statusByte &&& s.params.values.maskDcOk ≠ 0 then s.plan rest
  else if s.work.attempt < 4 then
    { s with work := { s.work with attempt := s.work.attempt + 1 }, todo := chargeAttemptOps s.params ++ rest }
  else s.failUpdate c .dcFail

end Sys2Proof.Machine
end

