-- ==== Sys2Proof/Machine/Timing.lean ====
section
/-! DEFINITION. The timing controller: its three commands, the temperature table and the repetition of a stage
(45_timing_policy.md). -/

namespace Sys2Proof.Machine

/-- SET_TIMING_FIXED (R301). -/
def execSetTimingFixed (s : State) : Result :=
  if s.argValue ≤ 0 then .next (s.raise .invalidArgument)
  else .next ({ s with budget := .fixed s.argValue.toNat }.endWith .ok)

/-- SET_TIMING_BUDGET (R302). -/
def execSetTimingBudget (s : State) : Result :=
  if s.argValue ≤ 0 then .next (s.raise .invalidArgument)
  else .next ({ s with budget := .timeMs s.argValue.toNat }.endWith .ok)

/-- The temperature bands' multipliers times ten, tested top to bottom (R304, R305). -/
def multiplier10 (celsius : Int) : Nat :=
  if celsius ≤ -10 then 170
  else if celsius ≤ -5 then 120
  else if celsius ≤ 5 then 80
  else if celsius ≤ 10 then 40
  else if celsius ≤ 15 then 30
  else if celsius ≤ 20 then 20
  else if celsius ≤ 40 then 10
  else 7

/-- `TempBudget(c) = (630 * M10(Band(c))) / 10` (R306). -/
def tempBudget (celsius : Int) : Nat := 630 * multiplier10 celsius / 10

/-- SET_TIMING_TEMP (R303). -/
def execSetTimingTemp (s : State) : Result :=
  .next ({ s with budget := .timeMs (tempBudget s.argValue) }.endWith .ok)

/-- What ends the repetition of the current stage: a number of sweeps, or a time (R308, R309). -/
inductive StageGoal where
  | sweeps (n : Nat)
  | elapsed (ms : Nat)
  deriving DecidableEq, Repr

/-- The goal of the current stage or pass; `none` with `budget = Unset`. Under `COUNT_FROM_FIRST`, stages 1 to 3 of a
timed full update run as many sweeps as stage 0 took (R307, R310). -/
def State.stageGoal (s : State) : Option StageGoal :=
  match s.budget with
  | .unset => none
  | .fixed n => some (.sweeps n)
  | .timeMs t =>
    match s.kind, s.params.timedStageMode with
    | .full, .countFromFirst => if s.work.stage = 0 then some (.elapsed t) else some (.sweeps s.work.firstSweeps)
    | .full, .perStage => some (.elapsed t)
    | .partialPass, _ => some (.elapsed t)

/-- Rendering starts at stage 0 (43_frame_renderer.md R254). -/
def runRenderStart (rest : List Op) (s : State) : State :=
  { s with work := { s.work with stage := 0, firstSweeps := 0 }, todo := .stageStart :: rest }

/-- Count one sweep more: `sweep <- sweep + 1` in its 31 bits (10_state.md R23, R308, R309). Past 2^31-1, where the spec
states no value, the register holds a free one (log entry 12). DESIGN CHOICE (unsafe): a stage of a number of sweeps counts
here too, after the sweep, so `sweep` is k-1 while its k-th sweep runs: the sweeps done, as R23 has it, and not the k of
R308's loop (log entry 31). -/
def State.countSweep (s : State) : State :=
  if s.work.sweep + 1 < 2 ^ 31 then { s with work := { s.work with sweep := s.work.sweep + 1 } }
  else
    { s with
      work := { s.work with sweep := (Config.sweepPastWidth s.freeSweeps).toNat }
      freeSweeps := s.freeSweeps + 1 }

/-- The stage or pass is done: the next stage of a full update, else the rendering is over (43_frame_renderer.md R254,
44_partial_updater.md R281). Stage 0's sweep count is kept for R310. -/
def State.stageDone (rest : List Op) (s : State) : State :=
  match s.kind with
  | .partialPass => s.plan rest
  | .full =>
    if s.work.stage < 3 then
      { s with
        work :=
          { s.work with
            stage := s.work.stage + 1
            firstSweeps := if s.work.stage = 0 then s.work.sweep else s.work.firstSweeps }
        todo := .stageStart :: rest }
    else s.plan rest

/-- A stage or pass starts: no sweep done; a timed one reads the clock, and one of no sweeps is over at once (R308 to
R310). DESIGN CHOICE (unsafe): `sweep` starts at 0 in a stage of a number of sweeps too, where R308's loop starts at 1 (log
entry 31). -/
def runStageStart (rest : List Op) (s : State) : Result :=
  let fresh : State := { s with work := { s.work with sweep := 0 } }
  match s.stageGoal with
  | none => .fault .runStageUnsetBudget
  | some (.sweeps n) => if n = 0 then .next (fresh.stageDone rest) else .next (fresh.plan (.sweepStart :: rest))
  | some (.elapsed _) =>
    let t := s.readClock
    .next { t with work := { t.work with sweep := 0, tStart := s.peer.nextNow }, todo := .sweepStart :: rest }

/-- A sweep is done: count it, and repeat the sweep or end the stage (R308, R309). -/
def runSweepEnd (rest : List Op) (s : State) : Result :=
  let done := s.countSweep
  match done.stageGoal with
  | none => .fault .runStageUnsetBudget
  | some (.sweeps n) =>
    if done.work.sweep < n then .next (done.plan (.sweepStart :: rest)) else .next (done.stageDone rest)
  | some (.elapsed ms) =>
    let t := done.readClock
    if ms ≤ s.peer.nextNow - s.work.tStart then .next (t.stageDone rest) else .next (t.plan (.sweepStart :: rest))

end Sys2Proof.Machine
end

