-- ==== Sys2Proof/Machine/Renderer.lean ====
section
/-! DEFINITION. The row transmission, the sweep, and the bytes of the full-refresh and partial-update rows
(43_frame_renderer.md, 44_partial_updater.md). -/

namespace Sys2Proof.Machine

/-- The exchanges of a ROW frame in order of transmission (30_encoding.md R99, 43_frame_renderer.md R250). -/
def rowSources (p : Params) (size : PanelSize) : List ByteSource :=
  [.const p.headers.data]
  ++ (if p.leadingBorder.get size then [.const p.borderByte] else [])
  ++ (List.range size.bytesPerLine).reverse.map .even
  ++ (List.range size.scanBytes).map .scan
  ++ (List.range size.bytesPerLine).map .odd
  ++ (if size = .small then [.const p.borderByte] else [])

/-- `RowTx(r, E, O)`, the row transmission of the current row (43_frame_renderer.md R250). -/
def rowOps (p : Params) (c : DriverConfig) : List Op :=
  [.send (.cogIndex p.regs.data), .csAssert c.cs]
  ++ (rowSources p c.size).map .exchange
  ++ [.csDeassert c.cs]
  ++ regWrite p.regs.oe p.values.oeLatch
  ++ [.rowEnd]

/-- The frame a stage draws: previous in stages 0 and 1, new in stages 2 and 3 (R253, 41_pixel_mapper.md R167). -/
def stageSource (prev : FrameSource) (stage : Nat) : FrameSource := if stage ≤ 1 then prev else .buffer newBase

/-- `E(b)`, the even mapped byte of frame index `i` (43_frame_renderer.md R251, 44_partial_updater.md R280). -/
def evenByte (s : State) (prev : FrameSource) (i : Nat) : Byte :=
  match s.kind with
  | .full =>
    mapEven s.params.evenPhase (s.frameByte (stageSource prev s.work.stage) i) (stageWhite s.work.stage)
      (stageBlack s.work.stage)
  | .partialPass => partialEven (s.frameByte prev i) (s.frameByte (.buffer newBase) i)

/-- `O(b)`, the odd mapped byte of frame index `i` (43_frame_renderer.md R251, 44_partial_updater.md R280). -/
def oddByte (s : State) (prev : FrameSource) (i : Nat) : Byte :=
  match s.kind with
  | .full =>
    mapOdd s.params.evenPhase (s.frameByte (stageSource prev s.work.stage) i) (stageWhite s.work.stage)
      (stageBlack s.work.stage)
  | .partialPass => partialOdd (s.frameByte prev i) (s.frameByte (.buffer newBase) i)

/-- The frame reads that sending one mapped byte makes; in a partial update the old byte before the new
(20_memory.md R70, 44_partial_updater.md R280). -/
def noteMappedRead (s : State) (prev : FrameSource) (i : Nat) : State :=
  match s.kind with
  | .full => s.noteRead (stageSource prev s.work.stage) i
  | .partialPass => (s.noteRead prev i).noteRead (.buffer newBase) i

/-- Set `byteIx` (10_state.md R23), in the step that sends the byte; DESIGN CHOICE (unsafe): between two such steps it holds
the byte sent last (log entry 31). -/
def State.atByte (s : State) (i : Nat) : State := { s with work := { s.work with byteIx := i } }

/-- One exchange of a ROW frame: its byte is evaluated now (43_frame_renderer.md R250). DESIGN CHOICE (log entry 30): the
frame reads behind one mapped byte, two of them in a partial row, and the exchange that sends it are one step, so no host
access falls between them (44_partial_updater.md R280, 20_memory.md R72). -/
def runExchange (c : DriverConfig) (src : ByteSource) (s : State) : Result :=
  match src with
  | .const b => .next (s.exchange b)
  | .scan j => .next ((s.exchange (scanByte s.params.scan c.size s.work.row j)).atByte j)
  | .even b =>
    match s.prevSource with
    | none => .fault .noPreviousFrame
    | some prev =>
      let i := s.work.row * c.size.bytesPerLine + b
      .next (((noteMappedRead s prev i).exchange (evenByte s prev i)).atByte b)
  | .odd b =>
    match s.prevSource with
    | none => .fault .noPreviousFrame
    | some prev =>
      let i := s.work.row * c.size.bytesPerLine + b
      .next (((noteMappedRead s prev i).exchange (oddByte s prev i)).atByte b)

/-- A sweep starts at row 0 (43_frame_renderer.md R252). -/
def runSweepStart (rest : List Op) (s : State) : State :=
  { s with work := { s.work with row := 0 }, todo := .rowStart :: rest }

/-- A row is sent: the next row in ascending order, or the sweep is done (R252). -/
def runRowEnd (c : DriverConfig) (rest : List Op) (s : State) : State :=
  if s.work.row + 1 < c.size.height then
    { s with work := { s.work with row := s.work.row + 1 }, todo := .rowStart :: rest }
  else s.plan (.sweepEnd :: rest)

end Sys2Proof.Machine
end

