-- ==== Sys2Proof/Machine/HostCommands.lean ====
section
/-! DEFINITION. CONFIGURE, FULL_UPDATE and PARTIAL_UPDATE, and the issue of a command (46_host_commands.md,
43_frame_renderer.md R255, 44_partial_updater.md R282). -/

namespace Sys2Proof.Machine

/-- `IssueCommand(w)`: BUSY is set and the operands are captured; the block decodes the word at its next step. The
command's log starts empty and its working registers unwritten (46_host_commands.md R330; log entries 6, 11). -/
def State.issue (s : State) (w : Word32) : State :=
  { s with busy := true, captured := s.staging, command := w, pending := true, work := Work.initial, logRev := [] }

/-- CONFIGURE (46_host_commands.md R332, R333). -/
def execConfigure (s : State) : Result :=
  match s.cfg with
  | some _ => .next (s.raise .invalidArgument)
  | none =>
    match s.captured.config s.params with
    | none => .next (s.raise .invalidPinConfig)
    | some c => .next ({ s with cfg := some c }.endWith .ok)

/-- An update starts: `PowerUp` sets VALIDATING first, and the rest of `Update(kind)` follows
(42_power_sequencer.md R201, 46_host_commands.md R334). -/
def State.startUpdate (s : State) (kind : UpdateKind) (ovr : Bool) : State :=
  { s with kind := kind, ovr := ovr, fsm := .validating, todo := [.validate] }

/-- FULL_UPDATE (43_frame_renderer.md R255). -/
def execFullUpdate (ovr : Bool) (s : State) : Result := .next (s.startUpdate .full ovr)

/-- PARTIAL_UPDATE (44_partial_updater.md R282). -/
def execPartialUpdate (ovr : Bool) (s : State) : Result := .next (s.startUpdate .partialPass ovr)

end Sys2Proof.Machine
end

