-- ==== Sys2Proof/Machine/Dispatch.lean ====
section
/-! DEFINITION. One arm per instruction, each one call of its meaning. -/

namespace Sys2Proof.Machine

def exec (i : Instr) (s : State) : Host.Outcome State Fault Refusal :=
  match i with
  | .configure => Sys2Proof.Machine.execConfigure s
  | .setTimingFixed => Sys2Proof.Machine.execSetTimingFixed s
  | .setTimingBudget => Sys2Proof.Machine.execSetTimingBudget s
  | .setTimingTemp => Sys2Proof.Machine.execSetTimingTemp s
  | .fullUpdate ovr => Sys2Proof.Machine.execFullUpdate ovr s
  | .partialUpdate ovr => Sys2Proof.Machine.execPartialUpdate ovr s
  | .cogIndex reg => Sys2Proof.Machine.execCogIndex reg s
  | .cogData value => Sys2Proof.Machine.execCogData value s
  | .cogRead => Sys2Proof.Machine.execCogRead s
  | .cogId => Sys2Proof.Machine.execCogId s
  | .cogBlock table => Sys2Proof.Machine.execCogBlock table s
  | .cogRowSmall lead even scan odd trail => Sys2Proof.Machine.execCogRowSmall lead even scan odd trail s
  | .cogRowMedium lead even scan odd => Sys2Proof.Machine.execCogRowMedium lead even scan odd s
  | .cogRowLarge lead even scan odd => Sys2Proof.Machine.execCogRowLarge lead even scan odd s

end Sys2Proof.Machine
end

