-- ==== Sys2Proof/Machine/Flags.lean ====
section
/-! DEFINITION. The flags and register views: STATUS, TIMING and their fields (10_state.md R25, R26, R31, R32;
60_exceptions.md R361). -/

namespace Sys2Proof.Machine

/-- STATUS.STATE codes (10_state.md R25). -/
def Fsm.code : Fsm → BitVec 4
  | .off => 0
  | .validating => 1
  | .resetting => 2
  | .probing => 3
  | .configuring => 4
  | .charging => 5
  | .ready => 6
  | .failed => 7
  | .poweringOff => 8

/-- STATUS.LAST_RESULT codes (60_exceptions.md R361). -/
def ResultCode.code : ResultCode → BitVec 4
  | .ok => 0
  | .invalidArgument => 1
  | .invalidPinConfig => 2
  | .invalidChipId => 3
  | .brokenPanel => 4
  | .dcFail => 5
  | .internalError => 6
  | .illegalCommand => 7

/-- STATUS.TIMING_MODE (10_state.md R31). -/
def Budget.mode : Budget → BitVec 2
  | .unset => 0
  | .fixed _ => 1
  | .timeMs _ => 2

/-- STATUS.CFG_SIZE: the size code, 0 with no configuration (R31). -/
def State.cfgSize (s : State) : BitVec 2 :=
  match s.cfg with
  | none => 0
  | some c => c.size.code

/-- A flag as one bit. -/
def flagBit (b : Bool) : BitVec 1 := BitVec.ofBool b

/-- The STATUS register (R31), most significant field first. -/
def State.status (s : State) : Word32 :=
  (0 : BitVec 14) ++ s.cfgSize ++ s.lastResult.code ++ (0 : BitVec 3) ++ s.budget.mode ++ flagBit s.prevValid
    ++ flagBit s.cfg.isSome ++ flagBit s.busy ++ s.fsm.code

/-- The TIMING register (R32). -/
def State.timing (s : State) : Word32 :=
  match s.budget with
  | .unset => 0
  | .fixed n => BitVec.ofNat 32 n
  | .timeMs t => BitVec.ofNat 32 t

end Sys2Proof.Machine
end

