-- ==== Sys2Proof/Machine/HostPort.lean ====
section
/-! DEFINITION. The host port: the address map, register and buffer accesses, host duties and bus errors (20_memory.md R60
to R69, 10_state.md R27 to R32, 60_exceptions.md R373, 70_reset_and_hazards.md R412), and the pseudo-instructions
(30_encoding.md R97). -/

namespace Sys2Proof.Machine

/-- What a block offset names (20_memory.md R61). -/
inductive Place where
  /-- The register window, 0x00000 to 0x0001F. -/
  | reg (offset : Nat)
  /-- A populated byte of NEW, OVR or PREV. -/
  | newByte (index : Nat)
  | ovrByte (index : Nat)
  | prevByte (index : Nat)
  /-- Unpopulated, or outside the map. -/
  | nowhere
  deriving DecidableEq, Repr

/-- The address map, by block offset (R61). -/
def placeAt (offset : Nat) : Place :=
  if offset < 0x20 then .reg offset
  else if newBase ≤ offset ∧ offset < newBase + maxFrameBytes then .newByte (offset - newBase)
  else if ovrBase ≤ offset ∧ offset < ovrBase + maxFrameBytes then .ovrByte (offset - ovrBase)
  else if prevBase ≤ offset ∧ offset < prevBase + maxFrameBytes then .prevByte (offset - prevBase)
  else .nowhere

/-- The place of a platform address: its offset from `BlockBase` (R61). -/
def placeOf (p : Params) (address : Nat) : Place :=
  if p.blockBase ≤ address then placeAt (address - p.blockBase) else .nowhere

/-- Byte offset of CMD (10_state.md R27). -/
def regCmd : Nat := 0x00
/-- Byte offset of ARG (R27). -/
def regArg : Nat := 0x04
/-- Byte offset of CFG0 (R27). -/
def regCfg0 : Nat := 0x08
/-- Byte offset of CFG1 (R27). -/
def regCfg1 : Nat := 0x0C
/-- Byte offset of STATUS (R27). -/
def regStatus : Nat := 0x10
/-- Byte offset of TIMING (R27). -/
def regTiming : Nat := 0x14

/-- The value a register offset reads as: CMD and the reserved registers read 0 (R27 to R32). -/
def State.readReg (s : State) (offset : Nat) : Word32 :=
  if offset = regArg then s.staging.arg
  else if offset = regCfg0 then s.staging.cfg0
  else if offset = regCfg1 then s.staging.cfg1
  else if offset = regStatus then s.status
  else if offset = regTiming then s.timing
  else 0

/-- The running command is an update, which reads NEW and OVR (70_reset_and_hazards.md R412). -/
def State.updateRunning (s : State) : Bool :=
  s.busy &&
    match decodeWord s.command with
    | .ok i => i.isUpdate
    | .error _ => false

/-- A write to CMD: it issues a command unless one runs; a breach of a host duty is recorded (R330, R412; log entry
17). -/
def State.writeCmd (s : State) (agent : Agent) (w : Word32) : State :=
  let t :=
    match agent with
    | .first => if s.busy then { s with hostFault := some .cmdWhileBusy } else s
    | .second => { s with hostFault := some .secondAgent }
  if s.busy then t else t.issue w

/-- An aligned write to a register offset: CMD starts a command, ARG, CFG0 and CFG1 store (CFG1 keeps bits 17:0), all
others ignore the write (20_memory.md R68, 10_state.md R27 to R30). -/
def State.writeReg (s : State) (agent : Agent) (offset : Nat) (v : Word32) : State :=
  if offset = regCmd then s.writeCmd agent v
  else if offset = regArg then { s with staging := { s.staging with arg := v } }
  else if offset = regCfg0 then { s with staging := { s.staging with cfg0 := v } }
  else if offset = regCfg1 then { s with staging := { s.staging with cfg1 := v &&& 0x0003FFFF } }
  else s

/-- The host's write of a byte of NEW or OVR at a block offset; during an update it is stored and breaks a host duty
(20_memory.md R75, 70_reset_and_hazards.md R412). DESIGN CHOICE (unsafe): R412 names only the host, and of a second agent
only its commands; a second agent's byte write during an update is recorded as the host's is (log entry 17). -/
def State.writeBuffer (s : State) (a : Nat) (v : Byte) : State :=
  { s with
    mem := s.mem.write a v
    hostFault := if s.updateRunning then some .bufferWriteDuringUpdate else s.hostFault }

/-- The host's read of a buffer byte at a block offset; a byte nothing wrote since reset is a recorded fault
(93_implementation_defined.md Part 1 row 1). -/
def State.readBuffer (s : State) (a : Nat) : State :=
  match s.mem.read a with
  | some b => s.respond (.byte b)
  | none => { s with readFault := some (.hostRead a) }.respond (.byte (s.bufferByte a))

/-- The host's read of PREV: a recorded fault while PREV_VALID = 0 (93 Part 1 row 2). -/
def State.readPrev (s : State) (a : Nat) : State :=
  if s.prevValid then s.readBuffer a
  else { s with readFault := some (.emptyPrev a) }.respond (.byte (s.bufferByte a))

/-- One access to the host port (20_memory.md R65 to R68); a refused one changes no state of the block (R67,
60_exceptions.md R373). -/
def hostAccess (agent : Agent) (x : Access) (s : State) : State :=
  match x with
  | .read32 a =>
    match placeOf s.params a with
    | .reg o => if o % 4 = 0 then s.respond (.word (s.readReg o)) else s.respond .busError
    | .newByte _ | .ovrByte _ | .prevByte _ | .nowhere => s.respond .busError
  | .write32 a v =>
    match placeOf s.params a with
    | .reg o => if o % 4 = 0 then (s.writeReg agent o v).respond .accepted else s.respond .busError
    | .newByte _ | .ovrByte _ | .prevByte _ | .nowhere => s.respond .busError
  | .read8 a =>
    match placeOf s.params a with
    | .newByte i => s.readBuffer (newBase + i)
    | .ovrByte i => s.readBuffer (ovrBase + i)
    | .prevByte i => s.readPrev (prevBase + i)
    | .reg _ | .nowhere => s.respond .busError
  | .write8 a v =>
    match placeOf s.params a with
    | .newByte i => (s.writeBuffer (newBase + i) v).respond .accepted
    | .ovrByte i => (s.writeBuffer (ovrBase + i) v).respond .accepted
    | .reg _ | .prevByte _ | .nowhere => s.respond .busError

/-- One turn of `wait`, the loop `do rd 0x10 while STATUS.BUSY = 1`: the host reads STATUS, and while it reads BUSY = 1 it
lets the block take a step and reads again (30_encoding.md R96; log entry 9). `rest` follows the loop. -/
def waitTurn (rest : List HostAction) (s : State) : State :=
  let again := if s.busy then .yield :: .wait :: rest else rest
  hostAccess .first (.read32 (s.params.blockBase + regStatus)) { s with host := again }

/-! ### Reset -/

/-- The state when reset is asserted `calls` transport calls into the frame being sent, if one is: the transport may be
left inside a chip-select frame (70_reset_and_hazards.md R400). -/
def State.cutFrame (s : State) (calls : Nat) : State :=
  match s.busy && !s.pending, s.todo, s.cfg with
  | true, .send i :: _, some c => s.frameRun c.cs ((frameCalls (frameBytes s.params.headers i)).take calls)
  | _, _, _ => s

/-- Reset: every field as after power-on, the running command abandoned with no power-off; the log ends where it
stopped, the pins keep their levels, and what lies outside the block goes on (R400, 93 Part 1 row 5; log entry 10). -/
def State.takeReset (s : State) (calls : Nat) : State :=
  let t := s.cutFrame calls
  { State.reset with
    params := s.params
    pins := t.pins
    logRev := t.logRev
    peer := t.peer
    host := t.host
    responsesRev := t.responsesRev
    epoch := s.epoch + 1
    freeSweeps := s.freeSweeps }

/-! ### Host programs -/

/-- `wr <off>, <value32>` (30_encoding.md R96). -/
def wr (p : Params) (offset : Nat) (v : Word32) : HostAction := .access .first (.write32 (p.blockBase + offset) v)

/-- `rd <off>` (R96). -/
def rd (p : Params) (offset : Nat) : HostAction := .access .first (.read32 (p.blockBase + offset))

/-- `wrb <space>, <off>, <byte>`, the space by its block offset (R96). -/
def wrb (p : Params) (space offset : Nat) (v : Byte) : HostAction :=
  .access .first (.write8 (p.blockBase + space + offset) v)

/-- `rdb <space>, <off>` (R96). -/
def rdb (p : Params) (space offset : Nat) : HostAction := .access .first (.read8 (p.blockBase + space + offset))

/-- Issue the command of an instruction and wait for its end (R97). -/
def issueAndWait (p : Params) (i : Instr) : List HostAction :=
  match encode p.headers i with
  | .word w => [wr p regCmd w, .wait]
  | .frame _ => []

/-- `configure size=…, cs=…, …`; the border field is 0xFF when absent (R97). -/
def configureProgram (p : Params) (c : DriverConfig) : List HostAction :=
  [ wr p regCfg0
      (BitVec.ofNat 8 c.panelOn ++ BitVec.ofNat 8 c.busy ++ BitVec.ofNat 8 c.reset ++ BitVec.ofNat 8 c.cs),
    wr p regCfg1
      ((0 : BitVec 14) ++ c.size.code ++ BitVec.ofNat 8 (c.border.getD 0xFF) ++ BitVec.ofNat 8 c.discharge) ]
  ++ issueAndWait p .configure

/-- `timing.fixed n` (R97). -/
def timingFixedProgram (p : Params) (n : Word32) : List HostAction := wr p regArg n :: issueAndWait p .setTimingFixed

/-- `timing.budget ms` (R97). -/
def timingBudgetProgram (p : Params) (ms : Word32) : List HostAction :=
  wr p regArg ms :: issueAndWait p .setTimingBudget

/-- `timing.temp c` (R97). -/
def timingTempProgram (p : Params) (c : Int) : List HostAction :=
  wr p regArg (BitVec.ofInt 32 c) :: issueAndWait p .setTimingTemp

/-- `update.full` and `update.full ovr` (R97). -/
def updateFullProgram (p : Params) (ovr : Bool) : List HostAction := issueAndWait p (.fullUpdate ovr)

/-- `update.partial` and `update.partial ovr` (R97). -/
def updatePartialProgram (p : Params) (ovr : Bool) : List HostAction := issueAndWait p (.partialUpdate ovr)

/-- `fill <space>, <byte>` (R97). -/
def fillProgram (p : Params) (space : Nat) (v : Byte) : List HostAction :=
  (List.range maxFrameBytes).map (fun i => wrb p space i v)

/-- `result`: a read of STATUS (R97); `State.resultTaken` takes bits 15:12 of its answer. -/
def resultProgram (p : Params) : List HostAction := [rd p regStatus]

/-- Bits 15:12 of an answer that is a word (R97). -/
def Response.resultBits : Response → Option (BitVec 4)
  | .word v => some (v.extractLsb' 12 4)
  | .byte _ | .accepted | .busError => none

/-- What `result` takes: bits 15:12 of the last answer (R97). -/
def State.resultTaken (s : State) : Option (BitVec 4) := s.responsesRev.head?.bind Response.resultBits

end Sys2Proof.Machine
end

