-- ==== Sys2Proof/Machine/Block.lean ====
section
/-! DEFINITION. One step of the block, one step of the machine, and where an instruction is fetched (46_host_commands.md
R330, 10_state.md R24, 20_memory.md R72). -/

namespace Sys2Proof.Machine

/-- The issued command word is decoded and run; an illegal one completes with ILLEGAL_COMMAND and changes nothing else
(46_host_commands.md R330, R337). -/
def runCommand (s : State) : Result :=
  let t := { s with pending := false }
  match decodeWord s.command with
  | .ok i => exec i t
  | .error _ => .next (t.raise .illegalCommand)

/-- A step that needs the active configuration. -/
def withConfig (s : State) (f : DriverConfig → Result) : Result :=
  match s.cfg with
  | some c => f c
  | none => .fault .noConfiguration

/-- One sequencer step; `s` holds the steps after it as `rest` (42_power_sequencer.md to 46_host_commands.md). -/
def runOp (op : Op) (rest : List Op) (s : State) : Result :=
  match op with
  | .enter f => .next (s.enter f)
  | .validate => .next (runValidate s)
  | .pinDir p d => .next (s.pinDir p d)
  | .pinWrite p l => .next (s.pinWrite p l)
  | .delay ms => .next (s.delay ms)
  | .sessionBegin => .next s.sessionBegin
  | .sessionEnd => .next s.sessionEnd
  | .send i => exec i s
  | .busyPoll => withConfig s (fun c => .next (runBusyPoll c rest s))
  | .checkId => withConfig s (fun c => .next (runCheckId c rest s))
  | .checkPanel => withConfig s (fun c => .next (runCheckPanel c rest s))
  | .chargeStart => .next (runChargeStart rest s)
  | .checkDc => withConfig s (fun c => .next (runCheckDc c rest s))
  | .renderStart => .next (runRenderStart rest s)
  | .stageStart => runStageStart rest s
  | .sweepStart => .next (runSweepStart rest s)
  | .rowStart => withConfig s (fun c => .next (s.plan (rowOps s.params c ++ rest)))
  | .csAssert cs => .next (s.csAssert cs)
  | .exchange src => withConfig s (fun c => runExchange c src s)
  | .csDeassert cs => .next (s.csDeassert cs)
  | .rowEnd => withConfig s (fun c => .next (runRowEnd c rest s))
  | .sweepEnd => runSweepEnd rest s
  | .commit => withConfig s (fun c => .next (s.commitPrev c.size))
  | .complete code => .next (s.complete code)

/-- One step of the block: idle it waits for the host (60_exceptions.md R372); an issued word is fetched, decoded and
run; else the next sequencer step is taken. -/
def blockStep (s : State) : Result :=
  if s.busy then
    if s.pending then runCommand s
    else
      match s.todo with
      | [] => .fault .sequencerEmpty
      | op :: rest => runOp op rest (s.plan rest)
  else .next s

/-- One step of the machine: the host's next action, or the block's next step where the host has none to make now
(20_memory.md R72; log entry 9). -/
def advance (s : State) : Result :=
  match s.host with
  | [] => blockStep s
  | .yield :: rest => blockStep { s with host := rest }
  | .wait :: rest => .next (waitTurn rest s)
  | .access agent x :: rest => .next (hostAccess agent x { s with host := rest })
  | .reset calls :: rest => .next (State.takeReset { s with host := rest } calls)

/-- The configuration a lone COG frame is placed under when none is active: DESIGN CHOICE, that of
95_test_vectors.md P1 (log entry 14). -/
def frameConfig : DriverConfig where
  size := .medium
  cs := 0
  reset := 1
  busy := 2
  panelOn := 3
  discharge := 4
  border := none

/-- A command word issued, the block's step being the next one. -/
def State.placeWord (s : State) (w : Word32) : State := { s.issue w with host := .yield :: s.host }

/-- A COG frame placed as the sequencer's next step of a running command: the block is READY with the session open,
as after rendering, and the power-off and completion follow (log entry 14). -/
def State.placeFrame (s : State) (i : Instr) : State :=
  let c := s.cfg.getD frameConfig
  { s with
    cfg := some c
    fsm := .ready
    session := true
    busy := true
    pending := false
    todo := .send i :: (powerOffOps s.params c ++ [.complete .ok])
    host := .yield :: s.host }

/-- An instruction of the opcode table, given as its bits, placed where the next step fetches it. -/
def State.place (s : State) (nbits w : Nat) : State :=
  match tableCode nbits w with
  | .word c => s.placeWord c
  | .frame bytes =>
    match decodeFrame Headers.reference bytes with
    | .ok i => s.placeFrame i
    | .error _ => s

end Sys2Proof.Machine
end

