-- ==== Sys2Proof/Machine/Step.lean ====
section
/-! DEFINITION. One step of the machine, and the state whose next step runs a given instruction. -/

namespace Sys2Proof.Machine

/-- One step: a host action, or one step of the block. -/
def step (s : State) : Host.Outcome State Fault Refusal := advance s

/-- `s` with one instruction of the opcode table placed so that the very next step runs it (log entry 14). -/
def State.withFetchWord (s : State) (nbits w : Nat) : State := s.place nbits w

end Sys2Proof.Machine
end

