-- ==== Sys2Proof/Safety.lean ====
section
/-! DEFINITION. What counts as a sound state of the block (`Inv`), and the log pieces and run forms that the statements
use. -/

namespace Sys2Proof.Machine

/-- A run of `k` steps of the machine. -/
abbrev run (k : Nat) (s : State) : Result := Sys2Proof.core.run k s

/-! ### Sound pieces of state -/

/-- `n` and `t` of a budget are in 1 to 2^31-1 (10_state.md R21, 45_timing_policy.md R300). -/
def Budget.wf : Budget → Bool
  | .unset => true
  | .fixed n => decide (1 ≤ n ∧ n < 2 ^ 31)
  | .timeMs t => decide (1 ≤ t ∧ t < 2 ^ 31)

/-- A configuration names valid pins, and a border pin iff LARGE (10_state.md R21, 46_host_commands.md R331). -/
def DriverConfig.wf (p : Params) (c : DriverConfig) : Bool :=
  pinOk p c.cs && pinOk p c.reset && pinOk p c.busy && pinOk p c.panelOn && pinOk p c.discharge
  && match c.size, c.border with
    | .large, some b => pinOk p b
    | .small, none => true
    | .medium, none => true
    | .large, none => false
    | .small, some _ => false
    | .medium, some _ => false

/-- The working registers fit their widths: stage 2 bits, sweep 31, row 8, byteIx 6, attempt 3 (10_state.md R23), and the
kept sweep count fits that of `sweep`. -/
def Work.fits (w : Work) : Prop :=
  w.stage < 4 ∧ w.sweep < 2 ^ 31 ∧ w.row < 256 ∧ w.byteIx < 64 ∧ w.attempt < 8 ∧ w.firstSweeps < 2 ^ 31

/-- The byte index of a ROW exchange fits `byteIx`. -/
def ByteSource.fits : ByteSource → Bool
  | .const _ => true
  | .even b => decide (b < 64)
  | .scan j => decide (j < 64)
  | .odd b => decide (b < 64)

/-- A running command's remaining steps are sound, from a session flag, whether a ROW frame is open, and the
power-sequencer state: exchanges only inside an open frame of an open session (40_transport.md R134), frames closed
before any other step (70_reset_and_hazards.md R413), rendering only in READY, and `Complete` last, with `state = OFF`
and the session closed (42_power_sequencer.md R222, 46_host_commands.md R334). -/
def progOk (session frame : Bool) (fsm : Fsm) : List Op → Bool
  | [] => false
  | op :: rest =>
    match op with
    | .complete _ => !session && !frame && decide (fsm = .off) && rest.isEmpty
    | .validate => false
    | .enter g => !frame && progOk session frame g rest
    | .pinDir _ _ | .pinWrite _ _ | .delay _ => !frame && progOk session frame fsm rest
    | .sessionBegin => !session && !frame && progOk true frame fsm rest
    | .sessionEnd => session && !frame && progOk false frame fsm rest
    | .send i => session && !frame && i.isFrame && progOk session frame fsm rest
    | .busyPoll | .checkId | .checkPanel | .chargeStart | .checkDc =>
      session && !frame && progOk session frame fsm rest
    | .renderStart | .stageStart | .sweepStart | .rowStart | .rowEnd | .sweepEnd =>
      session && !frame && decide (fsm = .ready) && progOk session frame fsm rest
    | .csAssert _ => session && !frame && progOk session true fsm rest
    | .exchange src => session && frame && src.fits && progOk session frame fsm rest
    | .csDeassert _ => frame && progOk session false fsm rest
    | .commit => !session && !frame && decide (fsm = .off) && progOk session frame fsm rest

/-- An update between VALIDATING and its completion: its configuration, previous frame and budget are there, and its
remaining steps are sound. -/
def State.updating (s : State) : Prop :=
  s.cfg.isSome = true ∧ s.prevSource.isSome = true ∧ s.budget ≠ .unset
  ∧ ∃ frame, progOk s.session frame s.fsm s.todo = true

/-- Where the block stands: idle, a command issued, VALIDATING, about to complete, or updating (10_state.md R24,
46_host_commands.md R339). -/
def State.controlOk (s : State) : Prop :=
  (s.busy = false ∧ s.pending = false ∧ s.todo = [] ∧ s.fsm = .off ∧ s.session = false)
  ∨ (s.busy = true ∧ s.pending = true ∧ s.todo = [] ∧ s.fsm = .off ∧ s.session = false)
  ∨ (s.busy = true ∧ s.pending = false ∧ s.todo = [.validate] ∧ s.fsm = .validating ∧ s.session = false)
  ∨ (s.busy = true ∧ s.pending = false ∧ (∃ code, s.todo = [.complete code]) ∧ s.fsm = .off ∧ s.session = false)
  ∨ (s.busy = true ∧ s.pending = false ∧ s.updating)

/-- While PREV_VALID = 1 there is a configuration and every PREV byte the block may read was written
(70_reset_and_hazards.md R405). -/
def State.prevOk (s : State) : Prop :=
  s.prevValid = true →
    ∃ c, s.cfg = some c ∧ ∀ i < c.size.frameBytes, (s.mem.read (prevBase + i)).isSome = true

/-- The invariant of the block. -/
structure State.Inv (s : State) : Prop where
  mem : s.mem.wf
  pins : SparseWf s.pins
  cfg : ∀ c, s.cfg = some c → c.wf s.params = true
  budget : s.budget.wf = true
  work : s.work.fits
  prev : s.prevOk
  control : s.controlOk

/-! ### Log pieces -/

/-- The exchanges of these bytes, with the peer's next answers (40_transport.md R131, R132). -/
def exchangeLog (peer : Peer) : Nat → List Byte → List Event
  | _, [] => []
  | k, b :: bs => .xchg b (peer.byteAt k) :: exchangeLog peer (k + 1) bs

/-- The events of one chip-select frame whose exchanges take the peer's answers from the `k`-th on (R136 to R138). -/
def frameLog (p : Params) (cs : PinId) (peer : Peer) (k : Nat) (bytes : List Byte) : List Event :=
  [.set cs p.csActive] ++ exchangeLog peer k bytes ++ [.set cs (!p.csActive)]

/-- An event without what the peer answered: the block's own part of the log. -/
inductive OutEvent where
  | sent (b : Byte)
  | dir (pin : PinId) (d : Direction)
  | set (pin : PinId) (l : Level)
  | get (pin : PinId)
  | wait (ms : Nat)
  | clock
  | begin (mode : Nat)
  | finish
  deriving DecidableEq, Repr

/-- The block's part of an event. -/
def Event.out : Event → OutEvent
  | .xchg b _ => .sent b
  | .dir p d => .dir p d
  | .set p l => .set p l
  | .get p _ => .get p
  | .wait ms => .wait ms
  | .clock _ => .clock
  | .begin m => .begin m
  | .finish => .finish

/-- The block's part of a chip-select frame. -/
def frameOut (p : Params) (cs : PinId) (bytes : List Byte) : List OutEvent :=
  [.set cs p.csActive] ++ bytes.map .sent ++ [.set cs (!p.csActive)]

/-- The block's part of `RegWrite(reg, v)` (40_transport.md R138). -/
def regWriteOut (p : Params) (cs : PinId) (reg v : Byte) : List OutEvent :=
  frameOut p cs [p.headers.index, reg] ++ frameOut p cs [p.headers.data, v]

/-- The border events of LARGE. -/
def borderOut (c : DriverConfig) (f : PinId → List OutEvent) : List OutEvent :=
  match c.size, c.border with
  | .large, some b => f b
  | _, _ => []

/-- The log of `PowerOff()`: no step of it reads a value from the peer (42_power_sequencer.md R220, R221). -/
def powerOffLog (p : Params) (c : DriverConfig) : List OutEvent :=
  borderOut c (fun b => [.set b false, .wait p.borderPulseMs, .set b true])
  ++ regWriteOut p c.cs p.regs.oe p.values.oeOff
  ++ regWriteOut p c.cs p.regs.latch p.values.latchReset
  ++ regWriteOut p c.cs p.regs.chargePump p.values.cpDown0
  ++ regWriteOut p c.cs p.regs.chargePump p.values.cpDown1
  ++ regWriteOut p c.cs p.regs.chargePump p.values.cpDown2
  ++ [.wait 300]
  ++ regWriteOut p c.cs p.regs.discharge p.values.discharge
  ++ regWriteOut p c.cs p.regs.osc p.values.oscOff
  ++ [.finish, .wait 50, .set c.panelOn false, .set c.reset false, .set c.cs false]
  ++ borderOut c (fun b => [.set b false])
  ++ [.set c.discharge true, .wait 150, .set c.discharge false]

/-- The log of RESETTING up to and without the busy poll (R204 to R206). -/
def resettingLog (p : Params) (c : DriverConfig) : List OutEvent :=
  [.dir c.cs .output, .dir c.reset .output, .dir c.panelOn .output, .dir c.discharge .output]
  ++ borderOut c (fun b => [.dir b .output])
  ++ [.dir c.busy .input, .begin p.clockMode, .set c.panelOn true, .set c.cs (!p.csActive), .set c.reset true,
      .set c.discharge false]
  ++ borderOut c (fun b => [.set b true])
  ++ [.wait 5, .set c.reset false, .wait 5, .set c.reset true, .wait 5]

/-- The log of CONFIGURING after the panel check (R214). -/
def configuringLog (p : Params) (c : DriverConfig) : List OutEvent :=
  regWriteOut p c.cs p.regs.powerSaving p.values.powerSaving
  ++ frameOut p c.cs [p.headers.index, p.regs.channelSelect]
  ++ frameOut p c.cs (p.headers.data :: p.chanSel.get c.size)
  ++ regWriteOut p c.cs p.regs.osc p.values.oscOn
  ++ regWriteOut p c.cs p.regs.power p.values.power
  ++ regWriteOut p c.cs p.regs.vcom p.values.vcom
  ++ regWriteOut p c.cs p.regs.latch p.values.latchOn
  ++ regWriteOut p c.cs p.regs.latch p.values.latchOff
  ++ [.wait 5]

/-- The log of `RegRead(REG_STATUS)`. -/
def statusReadLog (p : Params) (c : DriverConfig) : List OutEvent :=
  frameOut p c.cs [p.headers.index, p.regs.status] ++ frameOut p c.cs [p.headers.read, p.headers.dummy]

/-- The log of one charge-pump attempt (R215). -/
def chargeAttemptLog (p : Params) (c : DriverConfig) : List OutEvent :=
  regWriteOut p c.cs p.regs.chargePump p.values.cpPos ++ [.wait 150]
  ++ regWriteOut p c.cs p.regs.chargePump p.values.cpNeg ++ [.wait 90]
  ++ regWriteOut p c.cs p.regs.chargePump p.values.cpVcom ++ [.wait 40]
  ++ statusReadLog p c


/-- `n` copies of a log, in a row. -/
def repeatLog (n : Nat) (l : List OutEvent) : List OutEvent := (List.replicate n l).flatten

/-- The log of RESETTING with its busy wait, the pin read active `polls` times (R204 to R207). -/
def resettingWholeLog (p : Params) (c : DriverConfig) (polls : Nat) : List OutEvent :=
  resettingLog p c ++ repeatLog polls [.get c.busy, .wait 1] ++ [.get c.busy]

/-- The log of PROBING (R211). -/
def probingLog (p : Params) (c : DriverConfig) : List OutEvent := frameOut p c.cs [p.headers.id, p.headers.dummy]

/-- The log of CONFIGURING (R213, R214). -/
def configuringWholeLog (p : Params) (c : DriverConfig) : List OutEvent :=
  regWriteOut p c.cs p.regs.oe p.values.oeDisable ++ statusReadLog p c ++ configuringLog p c

/-- The log of CHARGING whose attempts before the last one, `failed` of them, fail, and of the entry to READY (R215,
R216). -/
def chargingLog (p : Params) (c : DriverConfig) (failed : Nat) : List OutEvent :=
  repeatLog (failed + 1) (chargeAttemptLog p c) ++ regWriteOut p c.cs p.regs.oe p.values.oeDisable

/-- The log of a power-up that reads the busy pin active `polls` times and fails `failed` charge attempts before one
succeeds (R204 to R216). -/
def powerUpLog (p : Params) (c : DriverConfig) (polls failed : Nat) : List OutEvent :=
  resettingWholeLog p c polls ++ probingLog p c ++ configuringWholeLog p c ++ chargingLog p c failed

/-- The bytes of the ROW frame of row `row`, from the mapped bytes `E` and `O` (30_encoding.md R99). -/
def rowFrameBytes (p : Params) (size : PanelSize) (row : Nat) (E O : Nat → Byte) : List Byte :=
  [p.headers.data]
  ++ (if p.leadingBorder.get size then [p.borderByte] else [])
  ++ (List.range size.bytesPerLine).reverse.map E
  ++ (List.range size.scanBytes).map (scanByte p.scan size row)
  ++ (List.range size.bytesPerLine).map O
  ++ (if size = .small then [p.borderByte] else [])

/-- The log of one row transmission (43_frame_renderer.md R250). -/
def rowLog (p : Params) (c : DriverConfig) (row : Nat) (E O : Nat → Byte) : List OutEvent :=
  frameOut p c.cs [p.headers.index, p.regs.data]
  ++ frameOut p c.cs (rowFrameBytes p c.size row E O)
  ++ regWriteOut p c.cs p.regs.oe p.values.oeLatch

/-- The log of one sweep of an update of this kind, in this stage, over the frames of `s` (R251, R252,
44_partial_updater.md R280). -/
def sweepLog (s : State) (c : DriverConfig) (prev : FrameSource) (kind : UpdateKind) (stage : Nat) : List OutEvent :=
  ((List.range c.size.height).map (fun row =>
    let at_ : State := { s with kind := kind, work := { s.work with stage := stage } }
    rowLog s.params c row (fun b => evenByte at_ prev (row * c.size.bytesPerLine + b))
      (fun b => oddByte at_ prev (row * c.size.bytesPerLine + b)))).flatten


/-- The block's part of a state's log. -/
def State.outLog (s : State) : List OutEvent := s.log.map Event.out

/-- The `Clock` values of a log, in order. -/
def clockValues (l : List Event) : List Nat :=
  l.filterMap (fun e => match e with
    | .clock t => some t
    | _ => none)

/-- Whether an event is an exchange. -/
def Event.isExchange : Event → Bool
  | .xchg _ _ => true
  | .dir _ _ | .set _ _ | .get _ _ | .wait _ | .clock _ | .begin _ | .finish => false

/-- How many exchanges a log has. -/
def exchangeCount (l : List Event) : Nat := (l.filter Event.isExchange).length

/-- The value the `k`-th next `Now` returns (40_transport.md R131). -/
def Peer.nowAt (p : Peer) : Nat → Nat
  | 0 => p.nextNow
  | k + 1 => p.tookNow.nowAt k

/-- The level the `k`-th next pin read returns (40_transport.md R131). -/
def Peer.levelAt (p : Peer) (k : Nat) : Level :=
  match p.levels[k]? with
  | some l => l
  | none => Config.freeLevel (p.freeLevels + (k - p.levels.length))

/-- The 2-bit symbol in bits `2k+1:2k` of a mapped byte (30_encoding.md R100). -/
def symbolAt (x : Byte) (k : Nat) : Symbol := x.extractLsb' (2 * k) 2

/-! ### Forms of a state -/

/-- The host leaves the block to run: no host action is left. -/
def State.blockRuns (s : State) : Prop := s.host = [] ∧ s.busy = true ∧ s.pending = false

/-- The word `w` is issued and the block's next step decodes it (46_host_commands.md R330). -/
def State.issued (s : State) (w : Word32) : Prop :=
  s.host = [] ∧ s.busy = true ∧ s.pending = true ∧ s.command = w

/-- `s` with its command ended in `code` (46_host_commands.md R336). -/
def State.ended (s : State) (code : ResultCode) : State :=
  { s with pending := false, todo := [], busy := false, lastResult := code }

/-- From `s`, one chip-select frame of these bytes was sent and nothing else changed but, where the frame returns a byte,
the working registers: the log, the chip-select pin's last level, and the peer's answers taken (40_transport.md R136 to
R138). -/
structure FrameSent (cs : PinId) (bytes : List Byte) (s t : State) : Prop where
  log : t.log = s.log ++ frameLog s.params cs s.peer 0 bytes
  csLevel : sparseGet t.pins cs = some (!s.params.csActive)
  otherPins : ∀ p, p ≠ cs → sparseGet t.pins p = sparseGet s.pins p
  answers : ∀ k, t.peer.byteAt k = s.peer.byteAt (k + bytes.length)
  otherAnswers : t.peer = { s.peer with bytes := t.peer.bytes, freeBytes := t.peer.freeBytes }
  frame : t = { s with logRev := t.logRev, peer := t.peer, pins := t.pins, work := t.work }

/-- From `s` a part of a rendering ran: these events were logged, `ops` are the steps left, the working registers are
`w` (but for `byteIx`), and nothing else changed but the pins' last levels, the peer's answers taken and the record of
reads; `draws` free sweep counts were drawn. -/
structure Rendered (s t : State) (out : List OutEvent) (ops : List Op) (w : Work) (draws : Nat) : Prop where
  log : t.outLog = s.outLog ++ out
  todo : t.todo = ops
  work : t.work = { w with byteIx := t.work.byteIx }
  frame : t = { s with
    logRev := t.logRev, peer := t.peer, pins := t.pins, work := t.work, readFault := t.readFault, todo := t.todo,
    freeSweeps := s.freeSweeps + draws }

/-- The steps left after a stage or pass that ends with `rest` to follow (43_frame_renderer.md R254, 44_partial_updater.md
R281). -/
def stageRest (s : State) (rest : List Op) : List Op :=
  match s.kind with
  | .partialPass => rest
  | .full => if s.work.stage < 3 then .stageStart :: rest else rest

/-- The working registers after a stage or pass of `n` sweeps over `h` rows, the stage's start time being `start`
(10_state.md R23). -/
def stageWork (s : State) (h n start : Nat) : Work :=
  let w : Work := { s.work with sweep := n, row := h - 1, tStart := start }
  match s.kind with
  | .partialPass => w
  | .full =>
    if s.work.stage < 3 then
      { w with
        stage := s.work.stage + 1
        firstSweeps := if s.work.stage = 0 then n else s.work.firstSweeps }
    else w

/-- What an update that failed after VALIDATING leaves: the result, the block idle and OFF, the session closed, the whole
power-off logged after what was logged before it, and `prev`, `cfg`, `budget` and every byte of memory as they were
(42_power_sequencer.md R218, 60_exceptions.md R362, R365). -/
structure FailedWith (s t : State) (c : DriverConfig) (before : List OutEvent) (code : ResultCode) : Prop where
  result : t.lastResult = code
  idle : t.busy = false ∧ t.pending = false ∧ t.todo = []
  off : t.fsm = .off ∧ t.session = false
  log : t.outLog = s.outLog ++ before ++ powerOffLog s.params c
  memory : t.mem = s.mem ∧ t.prevValid = s.prevValid
  kept : t.cfg = s.cfg ∧ t.budget = s.budget ∧ t.staging = s.staging ∧ t.hostFault = s.hostFault

/-- The way of an update that fails with `code`: after logging `before` it enters FAILED, then POWERING_OFF, and then ends
with the whole power-off logged (42_power_sequencer.md R218, R220). -/
def FailsWith (s : State) (c : DriverConfig) (before : List OutEvent) (code : ResultCode) : Prop :=
  ∃ j u v k t, run j s = .next u ∧ u.fsm = .failed ∧ u.outLog = s.outLog ++ before
    ∧ step u = .next v ∧ v.fsm = .poweringOff ∧ v.outLog = u.outLog
    ∧ run k v = .next t ∧ FailedWith s t c before code

/-- What a successful update leaves: OK, the block idle and OFF, the session closed, its log, PREV equal to NEW and valid,
and every other byte of memory, the configuration, the budget and the staging registers as they were
(43_frame_renderer.md R255, R256, 44_partial_updater.md R282, R284). -/
structure UpdatedWith (s t : State) (c : DriverConfig) (powerUp rendering : List OutEvent) : Prop where
  result : t.lastResult = .ok
  idle : t.busy = false ∧ t.pending = false ∧ t.todo = []
  off : t.fsm = .off ∧ t.session = false
  log : t.outLog = s.outLog ++ powerUp ++ rendering ++ powerOffLog s.params c
  committed : t.prevValid = true
    ∧ ∀ i < c.size.frameBytes, t.mem.read (prevBase + i) = some (s.bufferByte (newBase + i))
  otherBytes : ∀ a, ¬ (prevBase ≤ a ∧ a < prevBase + c.size.frameBytes) → t.mem.read a = s.mem.read a
  kept : t.cfg = s.cfg ∧ t.budget = s.budget ∧ t.staging = s.staging ∧ t.hostFault = s.hostFault

/-- Which byte of its own a charge-pump attempt's status read returns, counted over the attempts: 16 exchanges an
attempt, the status byte last (42_power_sequencer.md R215). -/
def attemptByte (j : Nat) : Nat := 16 * j + 15

/-- The peer answers a power-up well: the busy pin is active `polls` times and then not, the chip id is 0x12, the panel bit
is set, and of the charge attempts the first `failed`, at most three, fail and the next succeeds. The id, the panel status
and the first attempt's status are the 2nd, 10th and 61st bytes it returns (42_power_sequencer.md R207, R212, R213,
R215). -/
structure State.GoodPowerUp (s : State) (polls failed : Nat) : Prop where
  busy : ∀ k < polls, s.peer.levelAt k = s.params.busyActive
  ready : s.peer.levelAt polls ≠ s.params.busyActive
  chipId : s.peer.byteAt 1 = 0x12
  panel : s.peer.byteAt 9 &&& s.params.values.maskPanelOk ≠ 0
  few : failed < 4
  charging : ∀ i < failed, s.peer.byteAt (45 + attemptByte i) &&& s.params.values.maskDcOk = 0
  charged : s.peer.byteAt (45 + attemptByte failed) &&& s.params.values.maskDcOk ≠ 0

/-! ### The repetition of a stage -/

/-- The time of a stage, or of a pass (`kind` partial), that is timed on its own; `none` where it runs a number of sweeps
(45_timing_policy.md R307 to R310). -/
def State.stageTime (s : State) (kind : UpdateKind) (stage : Nat) : Option Nat :=
  match s.budget, kind, s.params.timedStageMode, stage with
  | .unset, _, _, _ => none
  | .fixed _, _, _, _ => none
  | .timeMs ms, .partialPass, _, _ => some ms
  | .timeMs ms, .full, .perStage, _ => some ms
  | .timeMs ms, .full, .countFromFirst, 0 => some ms
  | .timeMs _, .full, .countFromFirst, _ + 1 => none

/-- A stage timed on its own whose first clock reading is the peer's `clock`-th next makes `m` sweeps: the first reading
after a sweep that is at least `ms` past it is the `m`-th (45_timing_policy.md R309). -/
def Peer.timedSweeps (p : Peer) (ms clock m : Nat) : Prop :=
  1 ≤ m ∧ (∀ j, 1 ≤ j → j < m → p.nowAt (clock + j) - p.nowAt clock < ms)
  ∧ ms ≤ p.nowAt (clock + m) - p.nowAt clock

/-- A stage makes `m` sweeps: the budget's count, or by the clock, its first reading the `clock`-th next; under
COUNT_FROM_FIRST a later stage makes the `first` sweeps of stage 0 (45_timing_policy.md R308 to R310). A count stands in
`sweep`, so it fits 31 bits. -/
def State.makesSweeps (s : State) (kind : UpdateKind) (stage first clock m : Nat) : Prop :=
  match s.stageTime kind stage with
  | some ms => s.peer.timedSweeps ms clock m
  | none => 1 ≤ m ∧ m < 2 ^ 31 ∧ (s.budget = .fixed m ∨ ((∃ ms, s.budget = .timeMs ms) ∧ m = first))

/-- How many clock readings a stage of `m` sweeps makes. -/
def State.clocksOf (s : State) (kind : UpdateKind) (stage m : Nat) : Nat :=
  if (s.stageTime kind stage).isSome then m + 1 else 0

/-- The log of a stage of `m` sweeps: a timed one reads the clock before its first sweep and after every sweep. -/
def stageLog (s : State) (c : DriverConfig) (prev : FrameSource) (kind : UpdateKind) (stage m : Nat) : List OutEvent :=
  if (s.stageTime kind stage).isSome then .clock :: repeatLog m (sweepLog s c prev kind stage ++ [.clock])
  else repeatLog m (sweepLog s c prev kind stage)

/-! ### The reads behind a mapped byte -/

/-- The block offset of a frame byte; none for the ZERO frame. -/
def FrameSource.offsets (src : FrameSource) (i : Nat) : List Nat :=
  match src with
  | .buffer base => [base + i]
  | .zero => []

/-- The block offsets read for one mapped byte of frame index `i`, in order: the stage's frame in a full update, the
previous and then the new one in a partial update (43_frame_renderer.md R251, R253, 44_partial_updater.md R280). -/
def State.readsFor (s : State) (prev : FrameSource) (i : Nat) : List Nat :=
  match s.kind with
  | .full => if s.work.stage ≤ 1 then prev.offsets i else [0x10000 + i]
  | .partialPass => prev.offsets i ++ [0x10000 + i]

/-- The record of reads after the block reads these offsets: the last of them that nothing wrote since reset, else as
before (70_reset_and_hazards.md R405; log entry 5). -/
def State.recordOf (s : State) (offsets : List Nat) : Option ReadFault :=
  match (offsets.filter (fun a => (s.mem.read a).isNone)).getLast? with
  | some a => some (.blockRead a)
  | none => s.readFault

/-- Whether a step is a reset the platform asserts (70_reset_and_hazards.md R400). -/
def State.resets (s : State) : Prop := ∃ k rest, s.host = .reset k :: rest

end Sys2Proof.Machine
end

