-- ==== Sys2Proof/Certificates/Slice0/Obligations.lean ====
section
/-! DEFINITION. The statements for the provers. Where a docstring says "the model's choice", the clause rests on the log
entry named there and on no rule of the spec. -/

section
open Sys2Proof Sys2Proof.Machine

/-! ### Encoding -/

/-- Decoding what the encoder writes gives the instruction back, for every well-formed instruction and every choice of
header bytes that differ (30_encoding.md R91, R98, R99). -/
def Obligations.DecodeOfEncode : Prop :=
  ∀ (h : Headers) (i : Instr), h.wf = true → i.wf = true → decode h (encode h i) = .ok i

/-- What decodes is the encoding of what it decodes to, so no bit of it is dropped: a command word of its command, and a
chip-select frame of a well-formed COG instruction (R90, R91, R95, R98, R99). -/
def Obligations.EncodeOfDecode : Prop :=
  ∀ (h : Headers) (i : Instr),
    (∀ w : Word32, decodeWord w = .ok i → encode h i = .word w)
    ∧ ∀ bytes : List Byte,
      decodeFrame h bytes = .ok i → encode h i = .frame bytes ∧ i.wf = true ∧ i.isFrame = true

/-- The opcode map: a word decodes to a command iff it matches that command's mask and match (R91). -/
def Obligations.CommandWordsByMaskAndMatch : Prop :=
  ∀ w : Word32,
    (decodeWord w = .ok .configure ↔ w &&& 0xFFFFFFFF = 0x01000000)
    ∧ (decodeWord w = .ok .setTimingFixed ↔ w &&& 0xFFFFFFFF = 0x02000000)
    ∧ (decodeWord w = .ok .setTimingBudget ↔ w &&& 0xFFFFFFFF = 0x03000000)
    ∧ (decodeWord w = .ok .setTimingTemp ↔ w &&& 0xFFFFFFFF = 0x04000000)
    ∧ (decodeWord w = .ok (.fullUpdate (w.getLsbD 16)) ↔ w &&& 0xFFFEFFFF = 0x05000000)
    ∧ (decodeWord w = .ok (.partialUpdate (w.getLsbD 16)) ↔ w &&& 0xFFFEFFFF = 0x06000000)
    ∧ ∀ i, decodeWord w = .ok i →
      i ∈ [.configure, .setTimingFixed, .setTimingBudget, .setTimingTemp, .fullUpdate (w.getLsbD 16),
        .partialUpdate (w.getLsbD 16)]

/-- An illegal word, by opcode, by a reserved bit or by OVR on a command that takes none, ends with ILLEGAL_COMMAND and
changes nothing else (R94, 46_host_commands.md R337). -/
def Obligations.IllegalWordEnds : Prop :=
  ∀ (s : State) (w : Word32), s.issued w →
    (w.toNat / 2 ^ 24 = 0 ∨ 7 ≤ w.toNat / 2 ^ 24 ∨ w &&& 0x00FEFFFF ≠ 0
      ∨ (w.getLsbD 16 = true ∧ 1 ≤ w.toNat / 2 ^ 24 ∧ w.toNat / 2 ^ 24 ≤ 4)) →
    run 2 s = .next (s.ended .illegalCommand)

/-- A few words of the opcode table, written out from the encodings of R91 and R98 with the reference header bytes, decode
to the instructions they stand for. -/
def Obligations.SpecWordsDecode : Prop :=
  decodeTableWord 32 0x01000000 = some .configure ∧ decodeTableWord 32 0x05010000 = some (.fullUpdate true)
  ∧ decodeTableWord 32 0x06000000 = some (.partialUpdate false) ∧ decodeTableWord 32 0x05000001 = none
  ∧ decodeTableWord 16 0x700F = some (.cogIndex 0x0F) ∧ decodeTableWord 16 0x72D1 = some (.cogData 0xD1)
  ∧ decodeTableWord 16 0x7300 = some .cogRead ∧ decodeTableWord 16 0x7100 = some .cogId
  ∧ decodeTableWord 72 0x720000000001FFE000
      = some (.cogBlock [0x00, 0x00, 0x00, 0x00, 0x01, 0xFF, 0xE0, 0x00])

/-! ### Steps -/

/-- The block's next step runs the issued command's instruction, whether the host has nothing more to do or lets the block
step; and it runs a COG frame that the sequencer has next (46_host_commands.md R330, 10_state.md R24). -/
def Obligations.StepRunsTheInstruction : Prop :=
  ∀ (s : State) (i : Instr) (rest : List HostAction) (ops : List Op), s.busy = true →
    (s.pending = true → decodeWord s.command = .ok i →
      (s.host = [] → step s = exec i { s with pending := false })
      ∧ (s.host = .yield :: rest → step s = exec i { s with pending := false, host := rest }))
    ∧ (s.pending = false → s.todo = .send i :: ops →
      (s.host = [] → step s = exec i { s with todo := ops })
      ∧ (s.host = .yield :: rest → step s = exec i { s with todo := ops, host := rest }))

/-- A placed instruction is the one the next step runs. How it is placed is the model's choice (log entry 14). -/
def Obligations.WithFetchWordRuns : Prop :=
  (∀ (s : State) (w : Word32) (i : Instr), decodeWord w = .ok i →
    step (s.withFetchWord 32 w.toNat) = exec i { s.issue w with pending := false })
  ∧ ∀ (s : State) (nbits w : Nat) (bytes : List Byte) (i : Instr),
    tableCode nbits w = .frame bytes → decodeFrame Headers.reference bytes = .ok i →
    step (s.withFetchWord nbits w)
      = exec i
        { s with
          cfg := some (s.cfg.getD frameConfig)
          fsm := .ready
          session := true
          busy := true
          pending := false
          todo := powerOffOps s.params (s.cfg.getD frameConfig) ++ [.complete .ok] }

/-- A write to CMD issues its word when no command runs: BUSY is set and the operands are captured. While a command runs it
starts nothing and is recorded as a broken host duty, as is any command of a second agent (46_host_commands.md R330,
70_reset_and_hazards.md R412). That the log and the working registers start empty is the model's choice (log entries 6,
11), and so is which fault a second agent's write records (log entry 17). -/
def Obligations.CommandWriteIssues : Prop :=
  ∀ (s : State) (v : Word32) (rest : List HostAction),
    (s.host = .access .first (.write32 s.params.blockBase v) :: rest →
      (s.busy = false →
        step s = .next
          { s with
            host := rest
            busy := true
            captured := s.staging
            command := v
            pending := true
            work := Work.initial
            logRev := []
            responsesRev := .accepted :: s.responsesRev })
      ∧ (s.busy = true →
        step s = .next
          { s with
            host := rest
            hostFault := some .cmdWhileBusy
            responsesRev := .accepted :: s.responsesRev }))
    ∧ (s.host = .access .second (.write32 s.params.blockBase v) :: rest →
      (s.busy = false →
        step s = .next
          { s with
            host := rest
            busy := true
            captured := s.staging
            command := v
            pending := true
            work := Work.initial
            logRev := []
            hostFault := some .secondAgent
            responsesRev := .accepted :: s.responsesRev })
      ∧ (s.busy = true →
        step s = .next
          { s with
            host := rest
            hostFault := some .secondAgent
            responsesRev := .accepted :: s.responsesRev }))

/-! ### Timing commands -/

/-- SET_TIMING_FIXED: a positive ARG becomes the budget, any other ends with InvalidArgument and leaves the budget; the
whole command takes two steps and changes nothing else (45_timing_policy.md R301). -/
def Obligations.SetTimingFixedResult : Prop :=
  ∀ s : State,
    (0 < s.captured.arg.toInt →
      exec .setTimingFixed s
        = .next { s with budget := .fixed s.captured.arg.toInt.toNat, todo := [.complete .ok] }
      ∧ (s.issued 0x02000000 →
        run 2 s = .next (State.ended { s with budget := .fixed s.captured.arg.toInt.toNat } .ok)))
    ∧ (s.captured.arg.toInt ≤ 0 →
      exec .setTimingFixed s = .next { s with todo := [.complete .invalidArgument] }
      ∧ (s.issued 0x02000000 → run 2 s = .next (s.ended .invalidArgument)))

/-- SET_TIMING_BUDGET: as SET_TIMING_FIXED, for a time in milliseconds (45_timing_policy.md R302). -/
def Obligations.SetTimingBudgetResult : Prop :=
  ∀ s : State,
    (0 < s.captured.arg.toInt →
      exec .setTimingBudget s
        = .next { s with budget := .timeMs s.captured.arg.toInt.toNat, todo := [.complete .ok] }
      ∧ (s.issued 0x03000000 →
        run 2 s = .next (State.ended { s with budget := .timeMs s.captured.arg.toInt.toNat } .ok)))
    ∧ (s.captured.arg.toInt ≤ 0 →
      exec .setTimingBudget s = .next { s with todo := [.complete .invalidArgument] }
      ∧ (s.issued 0x03000000 → run 2 s = .next (s.ended .invalidArgument)))

/-- SET_TIMING_TEMP: the budget becomes the time the temperature gives, at least 441 ms; no value of ARG is an error
(45_timing_policy.md R303). -/
def Obligations.SetTimingTempResult : Prop :=
  ∀ s : State,
    exec .setTimingTemp s
      = .next { s with budget := .timeMs (tempBudget s.captured.arg.toInt), todo := [.complete .ok] }
    ∧ (s.issued 0x04000000 →
      run 2 s = .next (State.ended { s with budget := .timeMs (tempBudget s.captured.arg.toInt) } .ok))
    ∧ 441 ≤ tempBudget s.captured.arg.toInt

/-- The temperature table: the time of every whole temperature, band by band, tested top to bottom (45_timing_policy.md
R304 to R306). -/
def Obligations.TemperatureTable : Prop :=
  ∀ c : Int,
    tempBudget c = 630 * multiplier10 c / 10
    ∧ (c ≤ -10 → multiplier10 c = 170 ∧ tempBudget c = 10710)
    ∧ (-10 < c ∧ c ≤ -5 → multiplier10 c = 120 ∧ tempBudget c = 7560)
    ∧ (-5 < c ∧ c ≤ 5 → multiplier10 c = 80 ∧ tempBudget c = 5040)
    ∧ (5 < c ∧ c ≤ 10 → multiplier10 c = 40 ∧ tempBudget c = 2520)
    ∧ (10 < c ∧ c ≤ 15 → multiplier10 c = 30 ∧ tempBudget c = 1890)
    ∧ (15 < c ∧ c ≤ 20 → multiplier10 c = 20 ∧ tempBudget c = 1260)
    ∧ (20 < c ∧ c ≤ 40 → multiplier10 c = 10 ∧ tempBudget c = 630)
    ∧ (40 < c → multiplier10 c = 7 ∧ tempBudget c = 441)

/-! ### CONFIGURE -/

/-- CONFIGURE: the first success sets the configuration; bad staging ends with InvalidPinConfig; once configured it ends
with InvalidArgument, whatever is staged; it makes no transport operation and changes nothing else (46_host_commands.md
R332, R333). -/
def Obligations.ConfigureResult : Prop :=
  ∀ s : State,
    (s.cfg = none → ∀ c, s.captured.config s.params = some c →
      exec .configure s = .next { s with cfg := some c, todo := [.complete .ok] }
      ∧ (s.issued 0x01000000 → run 2 s = .next (State.ended { s with cfg := some c } .ok)))
    ∧ (s.cfg = none → s.captured.config s.params = none →
      exec .configure s = .next { s with todo := [.complete .invalidPinConfig] }
      ∧ (s.issued 0x01000000 → run 2 s = .next (s.ended .invalidPinConfig)))
    ∧ (s.cfg.isSome = true →
      exec .configure s = .next { s with todo := [.complete .invalidArgument] }
      ∧ (s.issued 0x01000000 → run 2 s = .next (s.ended .invalidArgument)))

/-- What the staged CFG0 and CFG1 configure: the five pin fields and the size from their bits, each pin neither 0xFF nor at
or above PinCount, and a border pin, checked the same way, iff LARGE (46_host_commands.md R331, 10_state.md R30). -/
def Obligations.StagedConfigurationAccepted : Prop :=
  ∀ (p : Params) (g : Staging) (c : DriverConfig),
    let valid (f : Nat) : Prop := f ≠ 0xFF ∧ f < p.pinCount
    g.config p = some c ↔
      c.cs = g.cfg0.toNat % 256 ∧ c.reset = g.cfg0.toNat / 256 % 256 ∧ c.busy = g.cfg0.toNat / 65536 % 256
      ∧ c.panelOn = g.cfg0.toNat / 16777216 ∧ c.discharge = g.cfg1.toNat % 256
      ∧ g.cfg1.toNat / 65536 % 4 = (match c.size with | .small => 0 | .medium => 1 | .large => 2)
      ∧ valid c.cs ∧ valid c.reset ∧ valid c.busy ∧ valid c.panelOn ∧ valid c.discharge
      ∧ (c.size = .large → c.border = some (g.cfg1.toNat / 256 % 256) ∧ valid (g.cfg1.toNat / 256 % 256))
      ∧ (c.size ≠ .large → c.border = none)

/-- The configuration, once set, is kept by every step but a reset, and the parameters, which stand in State by the model's
choice (log entry 1), by every step (10_state.md R21, R22). -/
def Obligations.ConfigurationImmutable : Prop :=
  ∀ (s t : State), step s = .next t →
    t.params = s.params ∧ ∀ c, s.cfg = some c → t.cfg = some c ∨ s.resets

/-! ### Updates -/

/-- An update sets VALIDATING first and changes nothing else in that step (42_power_sequencer.md R201,
46_host_commands.md R334). -/
def Obligations.UpdateStarts : Prop :=
  ∀ (s : State) (ovr : Bool),
    exec (.fullUpdate ovr) s = .next { s with kind := .full, ovr := ovr, fsm := .validating, todo := [.validate] }
    ∧ exec (.partialUpdate ovr) s
      = .next { s with kind := .partialPass, ovr := ovr, fsm := .validating, todo := [.validate] }

/-- VALIDATING: no configuration, no previous frame, no budget, in this order, each ends the command in OFF with no
transport operation and nothing else changed; when all three checks pass the state becomes RESETTING
(42_power_sequencer.md R202, R203). -/
def Obligations.ValidationChecks : Prop :=
  ∀ s : State, s.blockRuns → s.todo = [.validate] →
    (s.cfg = none → run 2 s = .next (State.ended { s with fsm := .off } .invalidPinConfig))
    ∧ ∀ c, s.cfg = some c →
      (s.prevSource = none → run 2 s = .next (State.ended { s with fsm := .off } .invalidArgument))
      ∧ (s.prevSource ≠ none → s.budget = .unset →
        run 2 s = .next (State.ended { s with fsm := .off } .internalError))
      ∧ (s.prevSource ≠ none → s.budget ≠ .unset →
        step s = .next { s with fsm := .resetting, todo := updateOps s.params c })

/-- Which frame an update uses as "previous", and that the ZERO frame is all zero bytes (46_host_commands.md R335,
44_partial_updater.md R283). -/
def Obligations.PreviousFrameChoice : Prop :=
  ∀ s : State,
    (s.ovr = true → s.prevSource = some (.buffer ovrBase))
    ∧ (s.ovr = false → s.prevValid = true → s.prevSource = some (.buffer prevBase))
    ∧ (s.ovr = false → s.prevValid = false → s.kind = .full → s.params.noPrevPolicy = .assumeWhite →
      s.prevSource = some .zero)
    ∧ (s.ovr = false → s.prevValid = false → s.kind = .full → s.params.noPrevPolicy = .reject → s.prevSource = none)
    ∧ (s.ovr = false → s.prevValid = false → s.kind = .partialPass → s.prevSource = none)
    ∧ ∀ i, s.frameByte .zero i = 0

/-- A full update whose peer answers the power-up well, after any number of active polls and up to three failed charge
attempts, runs to OK under either kind of budget: power-up, the four stages of `m0` to `m3` sweeps, power-off and commit,
with exactly that transport log (43_frame_renderer.md R254 to R256, 45_timing_policy.md R308 to R310, 46_host_commands.md
R334). -/
def Obligations.FullUpdateCompletes : Prop :=
  ∀ (s : State) (ovr : Bool) (c : DriverConfig) (prev : FrameSource) (polls failed m0 m1 m2 m3 : Nat),
    s.blockRuns → s.cfg = some c → State.prevSource { s with kind := .full, ovr := ovr } = some prev →
    s.GoodPowerUp polls failed → (s.params.chanSel.get c.size).length = 8 →
    let o1 := s.clocksOf .full 0 m0
    let o2 := o1 + s.clocksOf .full 1 m1
    let o3 := o2 + s.clocksOf .full 2 m2
    s.makesSweeps .full 0 m0 0 m0 → s.makesSweeps .full 1 m0 o1 m1 → s.makesSweeps .full 2 m0 o2 m2 →
    s.makesSweeps .full 3 m0 o3 m3 →
    ∃ t0 k t, exec (.fullUpdate ovr) s = .next t0 ∧ run k t0 = .next t
      ∧ UpdatedWith s t c (powerUpLog s.params c polls failed)
        (stageLog s c prev .full 0 m0 ++ stageLog s c prev .full 1 m1 ++ stageLog s c prev .full 2 m2
          ++ stageLog s c prev .full 3 m3)

/-- A partial update whose peer answers the power-up well, after any number of active polls and up to three failed charge
attempts, runs to OK under either kind of budget: power-up, one pass of `m` sweeps, power-off and commit, with exactly that
transport log (44_partial_updater.md R281, R282, R284). -/
def Obligations.PartialUpdateCompletes : Prop :=
  ∀ (s : State) (ovr : Bool) (c : DriverConfig) (prev : FrameSource) (polls failed m : Nat),
    s.blockRuns → s.cfg = some c → State.prevSource { s with kind := .partialPass, ovr := ovr } = some prev →
    s.GoodPowerUp polls failed → (s.params.chanSel.get c.size).length = 8 →
    s.makesSweeps .partialPass 0 m 0 m →
    ∃ t0 k t, exec (.partialUpdate ovr) s = .next t0 ∧ run k t0 = .next t
      ∧ UpdatedWith s t c (powerUpLog s.params c polls failed) (stageLog s c prev .partialPass 0 m)

/-- The chip-id check and the panel check: a chip id other than 0x12 ends with InvalidChipId, a status byte with no bit of
the panel mask with BrokenPanel, each by entering FAILED in that step with nothing logged, and after the whole power-off
and with `prev` unchanged; otherwise the sequence goes on (42_power_sequencer.md R212, R213, R218). -/
def Obligations.PowerUpChecks : Prop :=
  ∀ (s : State) (c : DriverConfig) (rest : List Op), s.blockRuns → s.cfg = some c →
    (s.todo = .checkId :: rest →
      (s.work.chipId = 0x12 → step s = .next { s with todo := rest })
      ∧ (s.work.chipId ≠ 0x12 →
        (∃ u, step s = .next u ∧ u.fsm = .failed ∧ u.log = s.log) ∧ FailsWith s c [] .invalidChipId))
    ∧ (s.todo = .checkPanel :: rest →
      (s.work.statusByte &&& s.params.values.maskPanelOk ≠ 0 → step s = .next { s with todo := rest })
      ∧ (s.work.statusByte &&& s.params.values.maskPanelOk = 0 →
        (∃ u, step s = .next u ∧ u.fsm = .failed ∧ u.log = s.log) ∧ FailsWith s c [] .brokenPanel))

/-- CHARGING: the first attempt, of at most four, whose status byte has a bit of the DC/DC mask ends it; after four without
one the fourth check's step enters FAILED with nothing logged, and the update ends with DcFail after the whole power-off
(42_power_sequencer.md R215, R217, R218). -/
def Obligations.ChargingAttempts : Prop :=
  ∀ (s : State) (c : DriverConfig) (rest : List Op), s.blockRuns → s.cfg = some c → s.todo = .chargeStart :: rest →
    (∀ j < 4, (∀ i < j, s.peer.byteAt (attemptByte i) &&& s.params.values.maskDcOk = 0) →
      s.peer.byteAt (attemptByte j) &&& s.params.values.maskDcOk ≠ 0 →
      ∃ k t, run k s = .next t ∧ t.todo = rest
        ∧ t.outLog = s.outLog ++ repeatLog (j + 1) (chargeAttemptLog s.params c)
        ∧ t.work = { s.work with attempt := j + 1, statusByte := s.peer.byteAt (attemptByte j) }
        ∧ t = { s with logRev := t.logRev, peer := t.peer, pins := t.pins, work := t.work, todo := t.todo })
    ∧ ((∀ i < 4, s.peer.byteAt (attemptByte i) &&& s.params.values.maskDcOk = 0) →
      FailsWith s c (repeatLog 4 (chargeAttemptLog s.params c)) .dcFail)
    ∧ ∀ (u : State) (rest' : List Op), u.blockRuns → u.cfg = some c → u.todo = .checkDc :: rest' → u.work.attempt = 4 →
      u.work.statusByte &&& u.params.values.maskDcOk = 0 →
      ∃ v, step u = .next v ∧ v.fsm = .failed ∧ v.log = u.log

/-- What STATE shows of a power-up that succeeds: VALIDATING for one step, then RESETTING, PROBING, CONFIGURING, CHARGING
and READY, each entered when the log of the states before it is whole and left for the next one only
(10_state.md R25, 42_power_sequencer.md R203, R207, R212, R214, R216). -/
def Obligations.PowerUpStates : Prop :=
  ∀ (s : State) (c : DriverConfig) (polls failed : Nat),
    s.blockRuns → s.todo = [.validate] → s.fsm = .validating → s.cfg = some c → s.prevSource ≠ none →
    s.budget ≠ .unset → s.GoodPowerUp polls failed → (s.params.chanSel.get c.size).length = 8 →
    ∃ a b d e, 1 < a ∧ a < b ∧ b < d ∧ d < e
      ∧ (∀ j ≤ e, ∃ t, run j s = .next t
        ∧ t.fsm = (if j < 1 then .validating else if j < a then .resetting else if j < b then .probing
          else if j < d then .configuring else if j < e then .charging else .ready)
        ∧ (j = 1 → t.outLog = s.outLog)
        ∧ (j = a → t.outLog = s.outLog ++ resettingWholeLog s.params c polls)
        ∧ (j = b → t.outLog = s.outLog ++ resettingWholeLog s.params c polls ++ probingLog s.params c)
        ∧ (j = d → t.outLog = s.outLog ++ resettingWholeLog s.params c polls ++ probingLog s.params c
          ++ configuringWholeLog s.params c)
        ∧ (j = e → t.outLog = s.outLog ++ powerUpLog s.params c polls failed
          ∧ t.todo = .renderStart :: (powerOffOps s.params c ++ [.commit, .complete .ok])))

/-- The power-off: POWERING_OFF first, its whole log in order, and then OFF, the session closed and every output pin's last
level 0 (42_power_sequencer.md R220, R222). -/
def Obligations.PowerOffRuns : Prop :=
  ∀ (s : State) (c : DriverConfig) (rest : List Op), s.blockRuns → s.cfg = some c →
    s.todo = powerOffOps s.params c ++ rest →
    (∃ u, step s = .next u ∧ u.fsm = .poweringOff ∧ u.log = s.log)
    ∧ ∃ k t, run k s = .next t ∧ t.outLog = s.outLog ++ powerOffLog s.params c
      ∧ (∀ x, x = c.panelOn ∨ x = c.reset ∨ x = c.cs ∨ x = c.discharge ∨ (c.size = .large ∧ c.border = some x) →
        sparseGet t.pins x = some false)
      ∧ t = { s with
        fsm := .off, session := false, todo := rest, logRev := t.logRev, peer := t.peer, pins := t.pins }

/-- The busy wait: for every number of active answers it reads the pin that often, with a delay of 1 ms after each, and
polls again, in the same state; the first other answer ends it with no delay (42_power_sequencer.md R207,
70_reset_and_hazards.md R410). -/
def Obligations.BusyWaitUnbounded : Prop :=
  ∀ (s : State) (c : DriverConfig) (rest : List Op), s.blockRuns → s.cfg = some c → s.todo = .busyPoll :: rest →
    (∀ (n : Nat) (more : List Level), s.peer.levels = List.replicate n s.params.busyActive ++ more →
      ∃ t, run (2 * n) s = .next t ∧ t.outLog = s.outLog ++ repeatLog n [.get c.busy, .wait 1]
        ∧ t = { s with logRev := t.logRev, peer := { s.peer with levels := more } })
    ∧ (s.peer.nextLevel ≠ s.params.busyActive →
      step s = .next
        { s with
          todo := rest
          peer := s.peer.tookLevel
          logRev := .get c.busy s.peer.nextLevel :: s.logRev })

/-! ### COG frames -/

/-- INDEX and DATA: one chip-select frame of the header byte and the value byte; nothing is written but the log and the
chip-select pin's level (40_transport.md R137). -/
def Obligations.IndexAndDataFramesSent : Prop :=
  ∀ (s : State) (c : DriverConfig) (v : Byte), s.cfg = some c →
    (∃ t, exec (.cogIndex v) s = .next t ∧ FrameSent c.cs [s.params.headers.index, v] s t ∧ t.work = s.work)
    ∧ ∃ t, exec (.cogData v) s = .next t ∧ FrameSent c.cs [s.params.headers.data, v] s t ∧ t.work = s.work

/-- READ, ID and BLOCK: READ keeps the second returned byte as the status byte, ID keeps it as the chip id, BLOCK sends its
table in order and keeps none; no other state is written but the log and the chip-select pin's level (40_transport.md
R138). -/
def Obligations.ReadIdAndBlockFramesSent : Prop :=
  ∀ (s : State) (c : DriverConfig) (table : List Byte), s.cfg = some c →
    (∃ t, exec .cogRead s = .next t ∧ FrameSent c.cs [s.params.headers.read, s.params.headers.dummy] s t
      ∧ t.work = { s.work with statusByte := s.peer.byteAt 1 })
    ∧ (∃ t, exec .cogId s = .next t ∧ FrameSent c.cs [s.params.headers.id, s.params.headers.dummy] s t
      ∧ t.work = { s.work with chipId := s.peer.byteAt 1 })
    ∧ ∃ t, exec (.cogBlock table) s = .next t ∧ FrameSent c.cs (s.params.headers.data :: table) s t ∧ t.work = s.work

/-- The ROW frames: header, optional leading border, even half in descending order, scan bytes, odd half in ascending
order, and for SMALL the trailing border; no other state is written but the log and the chip-select pin's level
(30_encoding.md R99, 43_frame_renderer.md R250). -/
def Obligations.RowFramesSent : Prop :=
  ∀ (s : State) (c : DriverConfig) (lead : Option Byte) (even scan odd : List Byte) (trail : Byte), s.cfg = some c →
    (∃ t, exec (.cogRowSmall lead even scan odd trail) s = .next t ∧ t.work = s.work
      ∧ FrameSent c.cs
        ([s.params.headers.data] ++ lead.toList ++ even.reverse ++ scan ++ odd ++ [trail]) s t)
    ∧ (∃ t, exec (.cogRowMedium lead even scan odd) s = .next t ∧ t.work = s.work
      ∧ FrameSent c.cs ([s.params.headers.data] ++ lead.toList ++ even.reverse ++ scan ++ odd) s t)
    ∧ ∃ t, exec (.cogRowLarge lead even scan odd) s = .next t ∧ t.work = s.work
      ∧ FrameSent c.cs ([s.params.headers.data] ++ lead.toList ++ even.reverse ++ scan ++ odd) s t

/-- The model's choice (log entry 15): with no configuration there is no chip-select pin, and a COG frame stops with the
fault noConfiguration. -/
def Obligations.FrameWithoutConfigurationStops : Prop :=
  ∀ (s : State) (i : Instr), s.cfg = none → i.isFrame = true → exec i s = .fault .noConfiguration

/-! ### Pixel mapper -/

/-- Which pixel bit feeds which symbol of the full-refresh bytes, in either phase (41_pixel_mapper.md R166, R173). -/
def Obligations.FullMappingPlacement : Prop :=
  ∀ (d : Byte) (w b : Symbol),
    (symbolAt (mapEven .low d w b) 3 = sym (d.getLsbD 6) w b ∧ symbolAt (mapEven .low d w b) 2 = sym (d.getLsbD 4) w b
      ∧ symbolAt (mapEven .low d w b) 1 = sym (d.getLsbD 2) w b
      ∧ symbolAt (mapEven .low d w b) 0 = sym (d.getLsbD 0) w b)
    ∧ (symbolAt (mapOdd .low d w b) 3 = sym (d.getLsbD 1) w b ∧ symbolAt (mapOdd .low d w b) 2 = sym (d.getLsbD 3) w b
      ∧ symbolAt (mapOdd .low d w b) 1 = sym (d.getLsbD 5) w b
      ∧ symbolAt (mapOdd .low d w b) 0 = sym (d.getLsbD 7) w b)
    ∧ (symbolAt (mapEven .high d w b) 3 = sym (d.getLsbD 7) w b
      ∧ symbolAt (mapEven .high d w b) 2 = sym (d.getLsbD 5) w b
      ∧ symbolAt (mapEven .high d w b) 1 = sym (d.getLsbD 3) w b
      ∧ symbolAt (mapEven .high d w b) 0 = sym (d.getLsbD 1) w b)
    ∧ (symbolAt (mapOdd .high d w b) 3 = sym (d.getLsbD 0) w b
      ∧ symbolAt (mapOdd .high d w b) 2 = sym (d.getLsbD 2) w b
      ∧ symbolAt (mapOdd .high d w b) 1 = sym (d.getLsbD 4) w b
      ∧ symbolAt (mapOdd .high d w b) 0 = sym (d.getLsbD 6) w b)

/-- Which pixel feeds which symbol of the partial-update bytes, each symbol the changed bit and the new bit; and when every
pixel changes they are the normal stage's bytes (41_pixel_mapper.md R171). -/
def Obligations.PartialMappingPlacement : Prop :=
  ∀ o n : Byte,
    let p (k : Nat) : Symbol := BitVec.ofBool ((o ^^^ n).getLsbD k) ++ BitVec.ofBool (n.getLsbD k)
    (symbolAt (partialEven o n) 3 = p 6 ∧ symbolAt (partialEven o n) 2 = p 4 ∧ symbolAt (partialEven o n) 1 = p 2
      ∧ symbolAt (partialEven o n) 0 = p 0)
    ∧ (symbolAt (partialOdd o n) 3 = p 1 ∧ symbolAt (partialOdd o n) 2 = p 3 ∧ symbolAt (partialOdd o n) 1 = p 5
      ∧ symbolAt (partialOdd o n) 0 = p 7)
    ∧ (o = ~~~n → partialEven o n = mapEven .low n 2 3 ∧ partialOdd o n = mapOdd .low n 2 3)

/-- The two lookup tables: their entries, the extraction of each from the packed word, the packed words of the normal stage,
and the mask, which gives no index with bit 1 set (41_pixel_mapper.md R162, R163). -/
def Obligations.LookupTables : Prop :=
  (∀ w b : Symbol,
    lutEven w b 0 = w ++ w ∧ lutEven w b 1 = w ++ b ∧ lutEven w b 4 = b ++ w ∧ lutEven w b 5 = b ++ b
    ∧ lutOdd w b 0 = w ++ w ∧ lutOdd w b 1 = b ++ w ∧ lutOdd w b 4 = w ++ b ∧ lutOdd w b 5 = b ++ b
    ∧ ∀ i : BitVec 3,
      extractLut (packLut (lutEven w b)) i = lutEven w b i ∧ extractLut (packLut (lutOdd w b)) i = lutOdd w b i
      ∧ (i.getLsbD 1 = true → lutEven w b i = 0 ∧ lutOdd w b i = 0)
      ∧ (i.getLsbD 1 = false →
        lutEven w b i = sym (i.getLsbD 2) w b ++ sym (i.getLsbD 0) w b
        ∧ lutOdd w b i = sym (i.getLsbD 0) w b ++ sym (i.getLsbD 2) w b))
  ∧ packLut (lutEven 2 3) = 0x00FE00BA ∧ packLut (lutOdd 2 3) = 0x00FB00EA
  ∧ ∀ (d : Byte) (k : Nat), (maskIndex d k).getLsbD 1 = false

/-- A scan sweep selects one row: under the requirements on the placement, exactly one scan byte of a row is not zero, and
two rows never send the same scan bytes (41_pixel_mapper.md R172, 30_encoding.md R101). -/
def Obligations.ScanSelectsOneRow : Prop :=
  ∀ (p : ScanPlacement) (size : PanelSize), p.okFor size = true → p.pattern ≠ 0 → ∀ r < size.height,
    (∃ j, j < size.scanBytes ∧ scanByte p size r j ≠ 0 ∧ ∀ j', scanByte p size r j' ≠ 0 → j' = j)
    ∧ ∀ r' < size.height, r' ≠ r → ∃ j, j < size.scanBytes ∧ scanByte p size r j ≠ scanByte p size r' j

/-- The four stages: the frame each draws and its symbol pair, and the partial pass's bytes (41_pixel_mapper.md R167,
43_frame_renderer.md R251, 44_partial_updater.md R280). -/
def Obligations.StageTable : Prop :=
  ∀ (s : State) (prev : FrameSource) (i : Nat),
    (s.kind = .full → s.work.stage = 0 →
      evenByte s prev i = mapEven s.params.evenPhase (s.frameByte prev i) 3 2
      ∧ oddByte s prev i = mapOdd s.params.evenPhase (s.frameByte prev i) 3 2)
    ∧ (s.kind = .full → s.work.stage = 1 →
      evenByte s prev i = mapEven s.params.evenPhase (s.frameByte prev i) 2 0
      ∧ oddByte s prev i = mapOdd s.params.evenPhase (s.frameByte prev i) 2 0)
    ∧ (s.kind = .full → s.work.stage = 2 →
      evenByte s prev i = mapEven s.params.evenPhase (s.frameByte (.buffer newBase) i) 3 0
      ∧ oddByte s prev i = mapOdd s.params.evenPhase (s.frameByte (.buffer newBase) i) 3 0)
    ∧ (s.kind = .full → s.work.stage = 3 →
      evenByte s prev i = mapEven s.params.evenPhase (s.frameByte (.buffer newBase) i) 2 3
      ∧ oddByte s prev i = mapOdd s.params.evenPhase (s.frameByte (.buffer newBase) i) 2 3)
    ∧ (s.kind = .partialPass →
      evenByte s prev i = partialEven (s.frameByte prev i) (s.frameByte (.buffer newBase) i)
      ∧ oddByte s prev i = partialOdd (s.frameByte prev i) (s.frameByte (.buffer newBase) i))

/-! ### Rendering -/

/-- The bytes of a ROW frame are evaluated when they are sent, from the buffers as they then stand
(43_frame_renderer.md R250, 20_memory.md R70). The record of reads after an exchange is a function of the bytes it reads:
the stage's frame in a full update, the previous and the new one in a partial update (70_reset_and_hazards.md R405). That
an unwritten byte is sent as a free value and the record holds the last one, that the reads and the exchange are one step,
and that this step sets `byteIx`, are the model's choices (log entries 5, 30, 31). -/
def Obligations.RowBytesReadWhenSent : Prop :=
  ∀ (s : State) (c : DriverConfig) (prev : FrameSource) (b : Nat) (rest : List Op),
    s.blockRuns → s.cfg = some c → s.prevSource = some prev →
    let i := s.work.row * c.size.bytesPerLine + b
    (s.todo = .exchange (.even b) :: rest → ∃ t, step s = .next t
      ∧ t.log = s.log ++ [.xchg (evenByte s prev i) (s.peer.byteAt 0)]
      ∧ t.readFault = s.recordOf (s.readsFor prev i)
      ∧ t = { s with
        todo := rest, logRev := t.logRev, peer := t.peer, work := { s.work with byteIx := b },
        readFault := t.readFault })
    ∧ (s.todo = .exchange (.odd b) :: rest → ∃ t, step s = .next t
      ∧ t.log = s.log ++ [.xchg (oddByte s prev i) (s.peer.byteAt 0)]
      ∧ t.readFault = s.recordOf (s.readsFor prev i)
      ∧ t = { s with
        todo := rest, logRev := t.logRev, peer := t.peer, work := { s.work with byteIx := b },
        readFault := t.readFault })
    ∧ (s.todo = .exchange (.scan b) :: rest → ∃ t, step s = .next t
      ∧ t.log = s.log ++ [.xchg (scanByte s.params.scan c.size s.work.row b) (s.peer.byteAt 0)]
      ∧ t = { s with todo := rest, logRev := t.logRev, peer := t.peer, work := { s.work with byteIx := b } })
    ∧ ∀ v, s.todo = .exchange (.const v) :: rest → ∃ t, step s = .next t
      ∧ t.log = s.log ++ [.xchg v (s.peer.byteAt 0)]
      ∧ t = { s with todo := rest, logRev := t.logRev, peer := t.peer }

/-- One row transmission: the INDEX frame of the data register, the ROW frame and the output-enable write, and nothing else
(43_frame_renderer.md R250, 30_encoding.md R99). -/
def Obligations.RowTransmission : Prop :=
  ∀ (s : State) (c : DriverConfig) (prev : FrameSource) (rest : List Op),
    s.blockRuns → s.cfg = some c → s.prevSource = some prev → s.todo = .rowStart :: rest →
    ∃ k t, run k s = .next t
      ∧ Rendered s t
        (rowLog s.params c s.work.row (fun b => evenByte s prev (s.work.row * c.size.bytesPerLine + b))
          (fun b => oddByte s prev (s.work.row * c.size.bytesPerLine + b)))
        (.rowEnd :: rest) s.work 0

/-- The ROW instructions of the opcode table carry the very bytes a row transmission sends (30_encoding.md R99). -/
def Obligations.RowInstructionIsTheRowFrame : Prop :=
  ∀ (p : Params) (row : Nat) (E O : Nat → Byte),
    let lead (size : PanelSize) := if p.leadingBorder.get size then some p.borderByte else none
    let scan (size : PanelSize) := (List.range size.scanBytes).map (scanByte p.scan size row)
    frameBytes p.headers
        (.cogRowSmall (lead .small) ((List.range 16).map E) (scan .small) ((List.range 16).map O) p.borderByte)
      = rowFrameBytes p .small row E O
    ∧ frameBytes p.headers (.cogRowMedium (lead .medium) ((List.range 25).map E) (scan .medium) ((List.range 25).map O))
      = rowFrameBytes p .medium row E O
    ∧ frameBytes p.headers (.cogRowLarge (lead .large) ((List.range 33).map E) (scan .large) ((List.range 33).map O))
      = rowFrameBytes p .large row E O

/-- A sweep sends every row once, row 0 first, and then ends (43_frame_renderer.md R252). -/
def Obligations.SweepAscending : Prop :=
  ∀ (s : State) (c : DriverConfig) (prev : FrameSource) (rest : List Op),
    s.blockRuns → s.cfg = some c → s.prevSource = some prev → s.todo = .sweepStart :: rest →
    ∃ k t, run k s = .next t
      ∧ Rendered s t (sweepLog s c prev s.kind s.work.stage) (.sweepEnd :: rest)
        { s.work with row := c.size.height - 1 } 0

/-- With a fixed budget a stage or pass is exactly `n` sweeps, then the next stage or the end of the rendering
(45_timing_policy.md R308); `n` in the range a budget has (R300). -/
def Obligations.FixedStageRuns : Prop :=
  ∀ (s : State) (c : DriverConfig) (prev : FrameSource) (n : Nat) (rest : List Op),
    s.blockRuns → s.cfg = some c → s.prevSource = some prev → s.todo = .stageStart :: rest →
    s.budget = .fixed n → 1 ≤ n → n < 2 ^ 31 →
    ∃ k t, run k s = .next t
      ∧ Rendered s t (repeatLog n (sweepLog s c prev s.kind s.work.stage)) (stageRest s rest)
        (stageWork s c.size.height n s.work.tStart) 0

/-- With a time budget a stage or pass reads the clock before its first sweep and after every sweep, and ends after the
first sweep, the `m`-th, whose reading is at least `ms` past the first (45_timing_policy.md R309): the partial pass, each
stage under PER_STAGE, and stage 0 under COUNT_FROM_FIRST (R310). `sweep` then holds `m` where its 31 bits can
(10_state.md R23); that it holds a free 31-bit value where they cannot is the model's choice (log entry 12). -/
def Obligations.TimedStageRuns : Prop :=
  ∀ (s : State) (c : DriverConfig) (prev : FrameSource) (ms m : Nat) (rest : List Op),
    s.blockRuns → s.cfg = some c → s.prevSource = some prev → s.todo = .stageStart :: rest →
    s.budget = .timeMs ms → (s.kind = .partialPass ∨ s.params.timedStageMode = .perStage ∨ s.work.stage = 0) →
    s.peer.timedSweeps ms 0 m →
    ∃ k t q d, run k s = .next t
      ∧ Rendered s t (.clock :: repeatLog m (sweepLog s c prev s.kind s.work.stage ++ [.clock])) (stageRest s rest)
        (stageWork s c.size.height q (s.peer.nowAt 0)) d
      ∧ q < 2 ^ 31 ∧ (m < 2 ^ 31 → q = m ∧ d = 0)

/-- Under COUNT_FROM_FIRST, stages 1 to 3 of a timed full update are as many sweeps as stage 0 took, with no clock read; a
kept count of 0, which only a free value can give (log entry 12), is an empty range (45_timing_policy.md R308, R310). -/
def Obligations.CountFromFirstStageRuns : Prop :=
  ∀ (s : State) (c : DriverConfig) (prev : FrameSource) (ms n : Nat) (rest : List Op),
    s.blockRuns → s.cfg = some c → s.prevSource = some prev → s.todo = .stageStart :: rest →
    s.budget = .timeMs ms → s.kind = .full → s.params.timedStageMode = .countFromFirst → 1 ≤ s.work.stage →
    s.work.firstSweeps = n →
    (1 ≤ n → n < 2 ^ 31 → ∃ k t, run k s = .next t
      ∧ Rendered s t (repeatLog n (sweepLog s c prev .full s.work.stage)) (stageRest s rest)
        (stageWork s c.size.height n s.work.tStart) 0)
    ∧ (n = 0 → ∃ t, step s = .next t ∧ t.log = s.log ∧ t.todo = stageRest s rest
      ∧ t.work.stage = (if s.work.stage < 3 then s.work.stage + 1 else s.work.stage)
      ∧ t = { s with todo := t.todo, work := { s.work with sweep := 0, stage := t.work.stage } })

/-- The commit: in one step the first FB bytes of PREV become those of NEW and PREV_VALID 1; every other byte and field is
kept (43_frame_renderer.md R256, 20_memory.md R69, R70). -/
def Obligations.CommitCopies : Prop :=
  ∀ (s : State) (c : DriverConfig) (rest : List Op), s.blockRuns → s.cfg = some c → s.todo = .commit :: rest →
    ∃ t, step s = .next t
      ∧ (∀ i < c.size.frameBytes, t.mem.read (prevBase + i) = some (s.bufferByte (newBase + i)))
      ∧ (∀ a, ¬ (prevBase ≤ a ∧ a < prevBase + c.size.frameBytes) → t.mem.read a = s.mem.read a)
      ∧ t = { s with mem := t.mem, prevValid := true, todo := rest }

/-! ### The host port -/

/-- Reading a register: its value by its offset, nothing else changed (10_state.md R27 to R32, 20_memory.md R68). `wait`
reads STATUS, and reads it again, after a block step, while it reads BUSY = 1; `result` takes the result code from a read
of STATUS (30_encoding.md R96, R97). That the loop reads once a block step is the model's choice (log entry 9). -/
def Obligations.RegisterReads : Prop :=
  ∀ (s : State) (agent : Agent) (rest : List HostAction),
    (∀ o, o < 0x20 → o % 4 = 0 → s.host = .access agent (.read32 (s.params.blockBase + o)) :: rest →
      step s = .next
        { s with
          host := rest
          responsesRev :=
            .word (if o = 0x04 then s.staging.arg else if o = 0x08 then s.staging.cfg0
              else if o = 0x0C then s.staging.cfg1 else if o = 0x10 then s.status
              else if o = 0x14 then s.timing else 0) :: s.responsesRev })
    ∧ (s.host = .wait :: rest → s.status.getLsbD 4 = true →
      step s = .next { s with host := .yield :: .wait :: rest, responsesRev := .word s.status :: s.responsesRev })
    ∧ (s.host = .wait :: rest → s.status.getLsbD 4 = false →
      step s = .next { s with host := rest, responsesRev := .word s.status :: s.responsesRev })
    ∧ (s.host = resultProgram s.params ++ rest →
      ∃ t, step s = .next t ∧ t.resultTaken = some s.lastResult.code
        ∧ t = { s with host := rest, responsesRev := .word s.status :: s.responsesRev })

/-- Writing a register other than CMD: ARG, CFG0 and CFG1 store, CFG1 without its top 14 bits, the others ignore the
write, at any time (10_state.md R27 to R32, 20_memory.md R68). -/
def Obligations.RegisterWrites : Prop :=
  ∀ (s : State) (agent : Agent) (o : Nat) (v : Word32) (rest : List HostAction), o < 0x20 → o % 4 = 0 → o ≠ 0 →
    s.host = .access agent (.write32 (s.params.blockBase + o) v) :: rest →
    step s = .next
      { s with
        host := rest
        responsesRev := .accepted :: s.responsesRev
        staging :=
          if o = 0x04 then { s.staging with arg := v }
          else if o = 0x08 then { s.staging with cfg0 := v }
          else if o = 0x0C then { s.staging with cfg1 := v &&& 0x0003FFFF }
          else s.staging }

/-- A refused access: wrong width for its space, a misaligned register, an unpopulated or unmapped offset, a write to PREV;
each is answered with a bus error and changes nothing (20_memory.md R67, 60_exceptions.md R373). -/
def Obligations.RefusedAccess : Prop :=
  ∀ (s : State) (agent : Agent) (a : Nat) (rest : List HostAction),
    let base := s.params.blockBase
    let register : Prop := base ≤ a ∧ a < base + 0x20 ∧ (a - base) % 4 = 0
    let inBuffer (b : Nat) : Prop := base + b ≤ a ∧ a < base + b + 5808
    let refused := { s with host := rest, responsesRev := .busError :: s.responsesRev }
    (s.host = .access agent (.read32 a) :: rest → ¬ register → step s = .next refused)
    ∧ (∀ v, s.host = .access agent (.write32 a v) :: rest → ¬ register → step s = .next refused)
    ∧ (s.host = .access agent (.read8 a) :: rest → ¬ inBuffer 0x10000 → ¬ inBuffer 0x20000 → ¬ inBuffer 0x30000 →
      step s = .next refused)
    ∧ ∀ v, s.host = .access agent (.write8 a v) :: rest → ¬ inBuffer 0x10000 → ¬ inBuffer 0x20000 →
      step s = .next refused

/-- A byte write to NEW or OVR stores the byte at once and changes no other byte; while an update runs it is recorded as a
broken host duty, at no other time (20_memory.md R65, R72, R75, 70_reset_and_hazards.md R412). R412 names the host; that a
second agent's byte write during an update breaks the same duty is the model's choice (log entry 17). -/
def Obligations.BufferWrites : Prop :=
  ∀ (s : State) (agent : Agent) (b i : Nat) (v : Byte) (rest : List HostAction),
    (b = 0x10000 ∨ b = 0x20000) → i < 5808 →
    s.host = .access agent (.write8 (s.params.blockBase + b + i) v) :: rest →
    let updating : Prop :=
      s.busy = true ∧ (s.command &&& 0xFFFEFFFF = 0x05000000 ∨ s.command &&& 0xFFFEFFFF = 0x06000000)
    ∃ t, step s = .next t ∧ t.mem.read (b + i) = some v ∧ (∀ x, x ≠ b + i → t.mem.read x = s.mem.read x)
      ∧ (updating → t.hostFault = some .bufferWriteDuringUpdate) ∧ (¬ updating → t.hostFault = s.hostFault)
      ∧ t = { s with
        host := rest, mem := t.mem, hostFault := t.hostFault, responsesRev := .accepted :: s.responsesRev }

/-- A byte read of NEW or OVR, or of PREV while it is valid, answers the byte last written and changes nothing else
(20_memory.md R65, R68). That a read of a byte with no value is recorded, and what it answers, is the model's choice (log
entries 5, 22). -/
def Obligations.BufferReads : Prop :=
  ∀ (s : State) (agent : Agent) (b i : Nat) (rest : List HostAction),
    (b = 0x10000 ∨ b = 0x20000 ∨ b = 0x30000) → i < 5808 →
    s.host = .access agent (.read8 (s.params.blockBase + b + i)) :: rest →
    (∀ v, s.mem.read (b + i) = some v → (b = 0x30000 → s.prevValid = true) →
      step s = .next { s with host := rest, responsesRev := .byte v :: s.responsesRev })
    ∧ (s.mem.read (b + i) = none → (b = 0x30000 → s.prevValid = true) →
      step s = .next
        { s with
          host := rest
          readFault := some (.hostRead (b + i))
          responsesRev := .byte (Config.unwrittenByte s.epoch (b + i)) :: s.responsesRev })
    ∧ (b = 0x30000 → s.prevValid = false →
      step s = .next
        { s with
          host := rest
          readFault := some (.emptyPrev (b + i))
          responsesRev := .byte (s.bufferByte (b + i)) :: s.responsesRev })

/-- The fields of STATUS, bit by bit, the codes they hold, the value of TIMING, and the geometry of each size (10_state.md
R20, R25, R31, R32, 60_exceptions.md R361). -/
def Obligations.StatusAndTimingFields : Prop :=
  (∀ s : State,
    s.status.extractLsb' 0 4 = s.fsm.code ∧ s.status.getLsbD 4 = s.busy ∧ s.status.getLsbD 5 = s.cfg.isSome
    ∧ s.status.getLsbD 6 = s.prevValid
    ∧ s.status.extractLsb' 7 2
      = (match s.budget with | .unset => 0#2 | .fixed _ => 1#2 | .timeMs _ => 2#2)
    ∧ s.status.extractLsb' 9 3 = 0 ∧ s.status.extractLsb' 12 4 = s.lastResult.code
    ∧ s.status.extractLsb' 16 2
      = (match s.cfg with
        | none => 0#2
        | some c => match c.size with | .small => 0#2 | .medium => 1#2 | .large => 2#2)
    ∧ s.status.extractLsb' 18 14 = 0
    ∧ (s.budget = .unset → s.timing = 0)
    ∧ ∀ n < 2 ^ 31, (s.budget = .fixed n ∨ s.budget = .timeMs n) → s.timing.toNat = n)
  ∧ [Fsm.off, .validating, .resetting, .probing, .configuring, .charging, .ready, .failed, .poweringOff].map Fsm.code
    = [0, 1, 2, 3, 4, 5, 6, 7, 8]
  ∧ [ResultCode.ok, .invalidArgument, .invalidPinConfig, .invalidChipId, .brokenPanel, .dcFail, .internalError,
      .illegalCommand].map ResultCode.code = [0, 1, 2, 3, 4, 5, 6, 7]
  ∧ [PanelSize.small, .medium, .large].map PanelSize.code = [0, 1, 2]
  ∧ [PanelSize.small, .medium, .large].map
      (fun z => (z.width, z.height, z.bytesPerLine, z.frameBytes, z.scanBytes))
    = [(128, 96, 16, 1536, 24), (200, 96, 25, 2400, 24), (264, 176, 33, 5808, 44)]

/-! ### Reset -/

/-- The reset state, as the table of reset values gives it: every register's reading, nothing running, no pin driven, no
byte of NEW, OVR or PREV with a value (70_reset_and_hazards.md R401). -/
def Obligations.ResetValues : Prop :=
  State.reset.readReg 0x00 = 0 ∧ State.reset.readReg 0x04 = 0x00000000 ∧ State.reset.readReg 0x08 = 0xFFFFFFFF
  ∧ State.reset.readReg 0x0C = 0x0000FFFF ∧ State.reset.readReg 0x10 = 0x00000000
  ∧ State.reset.readReg 0x14 = 0x00000000
  ∧ State.reset.fsm = .off ∧ State.reset.busy = false ∧ State.reset.cfg = none ∧ State.reset.prevValid = false
  ∧ State.reset.budget = .unset ∧ State.reset.lastResult = .ok ∧ State.reset.session = false
  ∧ State.reset.hostFault = none ∧ State.reset.pending = false ∧ State.reset.todo = [] ∧ State.reset.log = []
  ∧ (∀ p, sparseGet State.reset.pins p = none) ∧ ∀ a, State.reset.mem.read a = none

/-- A reset at any time abandons the running command at once: every field has its reset value and no power-off is run; the
pins keep their levels, and a frame being sent stops after the calls it made (70_reset_and_hazards.md R400). That the log,
the peer and the host's list go on, and the values of the fields the spec gives no reset value, are the model's choice (log
entries 1, 6, 7, 10). -/
def Obligations.ResetAbandons : Prop :=
  ∀ (s : State) (calls : Nat) (rest : List HostAction), s.host = .reset calls :: rest →
    ∃ t, step s = .next t
      ∧ t = { State.reset with
        params := s.params, pins := t.pins, logRev := t.logRev, peer := t.peer, host := rest,
        responsesRev := s.responsesRev, epoch := s.epoch + 1, freeSweeps := s.freeSweeps }
      ∧ ((s.busy = false ∨ s.pending = true ∨ ∀ i ops, s.todo ≠ .send i :: ops) →
        t.pins = s.pins ∧ t.logRev = s.logRev ∧ t.peer = s.peer)
      ∧ ∀ i ops c, s.busy = true → s.pending = false → s.todo = .send i :: ops → s.cfg = some c →
        t.log = s.log
          ++ (frameLog s.params c.cs s.peer 0 (frameBytes s.params.headers i)).take calls

/-- With no configuration every update ends with InvalidPinConfig and no transport operation; configured with no timing
command, every update that has a previous frame ends with InternalError; reset leaves neither configuration nor budget
(70_reset_and_hazards.md R403). -/
def Obligations.UnreadyUpdateRejected : Prop :=
  State.reset.cfg = none ∧ State.reset.budget = .unset
  ∧ ∀ (s : State) (w : Word32) (kind : UpdateKind), s.issued w →
    ((kind = .full ∧ w &&& 0xFFFEFFFF = 0x05000000) ∨ (kind = .partialPass ∧ w &&& 0xFFFEFFFF = 0x06000000)) →
    let u := { s with kind := kind, ovr := w.getLsbD 16 }
    (s.cfg = none → run 3 s = .next (State.ended { u with fsm := .off } .invalidPinConfig))
    ∧ (s.cfg.isSome = true → s.budget = .unset → u.prevSource.isSome = true →
      run 3 s = .next (State.ended { u with fsm := .off } .internalError))

/-! ### Invariants and whole-machine rules -/

/-- The invariant holds right after reset. That the working registers fit their widths there rests on the model's choice
of their reset values (log entry 6). -/
def Obligations.InvAtReset : Prop := State.reset.Inv

/-- Every step keeps the invariant: memory and pins in canonical form, the configuration and the budget in range, the
working registers in their widths, the commit's promise about PREV, and a sound place in the sequence (10_state.md R21, R23,
R24, 40_transport.md R134, 42_power_sequencer.md R222, 70_reset_and_hazards.md R405, R413). -/
def Obligations.InvKept : Prop := ∀ s t : State, s.Inv → step s = .next t → t.Inv

/-- A state that meets the invariant is never stuck: it has a next state, no fault and no refusal
(70_reset_and_hazards.md R414). -/
def Obligations.NeverStuck : Prop := ∀ s : State, s.Inv → ∃ t, step s = .next t

/-- A broken host duty, and a read of a byte with no value, once recorded, is forgotten by no step but a reset
(70_reset_and_hazards.md R412, 93_implementation_defined.md Part 1 rows 1, 2, 19). -/
def Obligations.HostFaultSticky : Prop :=
  ∀ s t : State, step s = .next t →
    (s.hostFault.isSome = true → t.hostFault.isSome = true ∨ s.resets)
    ∧ (s.readFault.isSome = true → t.readFault.isSome = true ∨ s.resets)

/-- Only a commit or a reset changes PREV_VALID or a byte of PREV (43_frame_renderer.md R256, 20_memory.md R60, R70). -/
def Obligations.PrevOnlyByCommit : Prop :=
  ∀ s t : State, step s = .next t → ¬ s.resets → (∀ rest, s.todo ≠ .commit :: rest) →
    t.prevValid = s.prevValid ∧ ∀ i < 5808, t.mem.read (0x30000 + i) = s.mem.read (0x30000 + i)

/-- Nothing but the three timing commands, and a reset, changes the budget (45_timing_policy.md R300). -/
def Obligations.BudgetOnlyByTiming : Prop :=
  ∀ s t : State, s.Inv → step s = .next t → ¬ s.resets → t.budget ≠ s.budget →
    s.busy = true ∧ s.pending = true
    ∧ (s.command = 0x02000000 ∨ s.command = 0x03000000 ∨ s.command = 0x04000000)

/-- Only the completion of a command, and a reset, writes the result or clears BUSY, and completion does both in one step
(46_host_commands.md R336). -/
def Obligations.ResultOnlyByComplete : Prop :=
  ∀ s t : State, step s = .next t → ¬ s.resets → (t.lastResult ≠ s.lastResult ∨ (s.busy = true ∧ t.busy = false)) →
    ∃ code rest, s.todo = .complete code :: rest ∧ t.lastResult = code ∧ t.busy = false
      ∧ t.mem = s.mem ∧ t.log = s.log ∧ t.cfg = s.cfg ∧ t.budget = s.budget ∧ t.fsm = s.fsm

/-- The clock readings of a log never decrease, and none is past the last value `Now` returned; every step keeps that
(40_transport.md R131). -/
def Obligations.ClockNeverDecreases : Prop :=
  ∀ s t : State, step s = .next t →
    (clockValues s.log).Pairwise (· ≤ ·) → (∀ v ∈ clockValues s.log, v ≤ s.peer.lastNow) →
    (clockValues t.log).Pairwise (· ≤ ·) ∧ (∀ v ∈ clockValues t.log, v ≤ t.peer.lastNow)
    ∧ s.peer.lastNow ≤ t.peer.lastNow

/-- No exchange is made while the session is closed (40_transport.md R134). -/
def Obligations.ExchangesOnlyInSession : Prop :=
  ∀ s t : State, s.Inv → step s = .next t → s.session = false → exchangeCount t.log ≤ exchangeCount s.log

end
end

