-- ==== Sys2Proof/Laws/Memory.lean ====
section
/-! SUPPORT. Sparse maps and the byte memory: what a read sees after a write, and that every operation keeps the
canonical form. -/

namespace Sys2Proof.Machine

theorem sparseGet_put_same {α : Type} (m : Sparse α) (a : Nat) (v : α) : sparseGet (sparsePut m a v) a = some v := by
  induction m with
  | nil => simp [sparsePut, sparseGet]
  | cons c m ih =>
    obtain ⟨k, w⟩ := c
    by_cases h : a < k
    · simp [sparsePut, sparseGet, h]
    · by_cases e : a = k <;> simp [sparsePut, sparseGet, h, e, ih]

theorem sparseGet_put_other {α : Type} (m : Sparse α) {a b : Nat} (v : α) (hne : b ≠ a) :
    sparseGet (sparsePut m a v) b = sparseGet m b := by
  induction m with
  | nil => simp [sparsePut, sparseGet, hne]
  | cons c m ih =>
    obtain ⟨k, w⟩ := c
    by_cases h : a < k
    · simp [sparsePut, sparseGet, h, hne]
    · by_cases e : a = k
      · subst e; simp [sparsePut, sparseGet, hne]
      · simp [sparsePut, sparseGet, h, e, ih]

/-- The keys of a map after one put are the old ones and the new one. -/
theorem mem_keys_put {α : Type} (m : Sparse α) (a : Nat) (v : α) (x : Nat) :
    x ∈ (sparsePut m a v).map Prod.fst ↔ x = a ∨ x ∈ m.map Prod.fst := by
  induction m with
  | nil => simp [sparsePut]
  | cons c m ih =>
    obtain ⟨k, w⟩ := c
    by_cases h : a < k
    · simp [sparsePut, h]
    · by_cases e : a = k
      · subst e; simp [sparsePut]
      · simp only [sparsePut, h, e, if_false, List.map_cons, List.mem_cons, ih]
        tauto

theorem sparsePut_wf {α : Type} {m : Sparse α} (h : SparseWf m) (a : Nat) (v : α) : SparseWf (sparsePut m a v) := by
  induction m with
  | nil => simp [sparsePut, SparseWf]
  | cons c m ih =>
    obtain ⟨k, w⟩ := c
    have hk : ∀ x ∈ m.map Prod.fst, k < x := (List.pairwise_cons.mp h).1
    have hm : SparseWf m := (List.pairwise_cons.mp h).2
    by_cases lt : a < k
    · simp only [sparsePut, lt, if_true, SparseWf, List.map_cons]
      refine List.pairwise_cons.mpr ⟨?_, h⟩
      intro x hx
      rcases List.mem_cons.mp hx with rfl | hx
      · exact lt
      · exact lt_trans lt (hk x hx)
    · by_cases e : a = k
      · subst e
        simp only [sparsePut, lt_irrefl, if_false, if_true, SparseWf, List.map_cons]
        exact List.pairwise_cons.mpr ⟨hk, hm⟩
      · simp only [sparsePut, lt, e, if_false, SparseWf, List.map_cons]
        refine List.pairwise_cons.mpr ⟨?_, ih hm⟩
        intro x hx
        rcases (mem_keys_put m a v x).mp hx with rfl | hx
        · omega
        · exact hk x hx

theorem memory_read_write_same (m : Memory) (a : Nat) (b : Byte) : (m.write a b).read a = some b :=
  sparseGet_put_same m a b

theorem memory_read_write_other (m : Memory) {a x : Nat} (b : Byte) (h : x ≠ a) : (m.write a b).read x = m.read x :=
  sparseGet_put_other m b h

theorem memory_write_wf {m : Memory} (h : m.wf) (a : Nat) (b : Byte) : (m.write a b).wf := sparsePut_wf h a b

/-- The cells of a block list exactly its bytes. -/
theorem sparseGet_cellsFrom (a : Nat) (bs : List Byte) (x : Nat) :
    sparseGet (cellsFrom a bs) x = if a ≤ x then bs[x - a]? else none := by
  induction bs generalizing a with
  | nil => simp [cellsFrom, sparseGet]
  | cons b bs ih =>
    simp only [cellsFrom, sparseGet]
    by_cases e : x = a
    · subst e; simp
    · rw [if_neg e, ih]
      by_cases h : a ≤ x
      · obtain ⟨d, hd⟩ : ∃ d, x - a = d + 1 := ⟨x - a - 1, by omega⟩
        have : x - (a + 1) = d := by omega
        rw [if_pos (by omega), if_pos h, hd, this]
        simp
      · rw [if_neg (by omega), if_neg h]

theorem cellsFrom_keys (a : Nat) (bs : List Byte) (x : Nat) (h : x ∈ (cellsFrom a bs).map Prod.fst) :
    a ≤ x ∧ x < a + bs.length := by
  induction bs generalizing a with
  | nil => simp [cellsFrom] at h
  | cons b bs ih =>
    simp only [cellsFrom, List.map_cons, List.mem_cons] at h
    rcases h with rfl | h
    · simp
    · have := ih (a + 1) h
      simp only [List.length_cons]
      omega

theorem cellsFrom_wf (a : Nat) (bs : List Byte) : (cellsFrom a bs).wf := by
  induction bs generalizing a with
  | nil => exact List.Pairwise.nil
  | cons b bs ih =>
    simp only [Memory.wf, SparseWf, cellsFrom, List.map_cons]
    refine List.pairwise_cons.mpr ⟨fun x hx => ?_, ih (a + 1)⟩
    exact (cellsFrom_keys (a + 1) bs x hx).1

theorem sparseGet_append {α : Type} (m n : Sparse α) (x : Nat) :
    sparseGet (m ++ n) x = (sparseGet m x).or (sparseGet n x) := by
  induction m with
  | nil => simp [sparseGet]
  | cons c m ih =>
    obtain ⟨k, w⟩ := c
    by_cases e : x = k <;> simp [sparseGet, e, ih]

/-- Filtering on keys hides the keys it drops and keeps the others. -/
theorem sparseGet_filter {α : Type} (m : Sparse α) (p : Nat → Bool) (x : Nat) :
    sparseGet (m.filter (fun c => p c.1)) x = if p x then sparseGet m x else none := by
  induction m with
  | nil => simp [sparseGet]
  | cons c m ih =>
    obtain ⟨k, w⟩ := c
    by_cases hk : p k = true
    · rw [List.filter_cons_of_pos (by simpa using hk)]
      by_cases e : x = k
      · subst e; simp [sparseGet, hk]
      · simp [sparseGet, e, ih]
    · rw [List.filter_cons_of_neg (by simpa using hk), ih]
      by_cases e : x = k
      · subst e; simp [hk]
      · simp [sparseGet, e]

/-- What a read sees after a block write: the block's bytes inside it, the old memory elsewhere. -/
theorem memory_read_writeBlock (m : Memory) (a : Nat) (bs : List Byte) (x : Nat) :
    (m.writeBlock a bs).read x = if a ≤ x ∧ x < a + bs.length then bs[x - a]? else m.read x := by
  simp only [Memory.writeBlock, Memory.read, sparseGet_append, sparseGet_cellsFrom]
  rw [sparseGet_filter m (fun k => decide (k < a)) x, sparseGet_filter m (fun k => decide (a + bs.length ≤ k)) x]
  by_cases h1 : x < a
  · have h2 : ¬ a ≤ x := by omega
    have h3 : ¬ a + bs.length ≤ x := by omega
    simp [h1, h2, h3]
  · by_cases h2 : x < a + bs.length
    · have h3 : a ≤ x := by omega
      have h4 : x - a < bs.length := by omega
      simp [h1, h2, h3, h4]
    · have h3 : a ≤ x := by omega
      have h4 : a + bs.length ≤ x := by omega
      have h5 : bs.length ≤ x - a := by omega
      simp [h1, h2, h3, h4, h5]

theorem memory_writeBlock_wf {m : Memory} (h : m.wf) (a : Nat) (bs : List Byte) : (m.writeBlock a bs).wf := by
  have hf : ∀ q : Host.Cell → Bool, ((m.filter q).map Prod.fst).Pairwise (· < ·) := fun q =>
    List.Pairwise.sublist (List.Sublist.map Prod.fst (List.filter_sublist)) h
  have hlo : ∀ x ∈ (m.filter (fun c => decide (c.1 < a))).map Prod.fst, x < a := by
    intro x hx
    obtain ⟨c, hc, rfl⟩ := List.mem_map.mp hx
    simpa using (List.mem_filter.mp hc).2
  have hhi : ∀ x ∈ (m.filter (fun c => decide (a + bs.length ≤ c.1))).map Prod.fst, a + bs.length ≤ x := by
    intro x hx
    obtain ⟨c, hc, rfl⟩ := List.mem_map.mp hx
    simpa using (List.mem_filter.mp hc).2
  simp only [Memory.wf, SparseWf, Memory.writeBlock, List.map_append, List.append_assoc]
  refine List.pairwise_append.mpr ⟨hf _, List.pairwise_append.mpr ⟨cellsFrom_wf a bs, hf _, ?_⟩, ?_⟩
  · intro x hx y hy
    have := (cellsFrom_keys a bs x hx).2
    have := hhi y hy
    omega
  · intro x hx y hy
    have hxa := hlo x hx
    rcases List.mem_append.mp hy with hy | hy
    · have := (cellsFrom_keys a bs y hy).1
      omega
    · have := hhi y hy
      omega

end Sys2Proof.Machine
end

