-- ==== Sys2Proof/Laws/State.lean ====
section
/-! SUPPORT. One lemma per field per named update of State, true by rfl. -/

namespace Sys2Proof.Machine

@[simp] theorem State.delay_eq (s : State) (ms : Nat) : s.delay ms = s.record (.wait ms) := rfl
@[simp] theorem State.pinDir_eq (s : State) (p : PinId) (d : Direction) : s.pinDir p d = s.record (.dir p d) := rfl
@[simp] theorem State.csAssert_eq (s : State) (cs : PinId) : s.csAssert cs = s.pinWrite cs s.params.csActive := rfl
@[simp] theorem State.csDeassert_eq (s : State) (cs : PinId) : s.csDeassert cs = s.pinWrite cs (!s.params.csActive) := rfl
@[simp] theorem State.endWith_eq (s : State) (code : ResultCode) : s.endWith code = s.plan [.complete code] := rfl
@[simp] theorem State.raise_eq (s : State) (code : ResultCode) : s.raise code = s.plan [.complete code] := rfl
@[simp] theorem State.rejectUpdate_eq (s : State) (code : ResultCode) :
    s.rejectUpdate code = (s.enter .off).plan [.complete code] := rfl
@[simp] theorem State.failUpdate_eq (s : State) (c : DriverConfig) (code : ResultCode) :
    s.failUpdate c code = s.fail (powerOffOps s.params c) code := rfl

/-! ### record -/

@[simp] theorem State.record_params (s : State) (e : Event) : (s.record e).params = s.params := rfl
@[simp] theorem State.record_cfg (s : State) (e : Event) : (s.record e).cfg = s.cfg := rfl
@[simp] theorem State.record_budget (s : State) (e : Event) : (s.record e).budget = s.budget := rfl
@[simp] theorem State.record_prevValid (s : State) (e : Event) : (s.record e).prevValid = s.prevValid := rfl
@[simp] theorem State.record_fsm (s : State) (e : Event) : (s.record e).fsm = s.fsm := rfl
@[simp] theorem State.record_busy (s : State) (e : Event) : (s.record e).busy = s.busy := rfl
@[simp] theorem State.record_lastResult (s : State) (e : Event) : (s.record e).lastResult = s.lastResult := rfl
@[simp] theorem State.record_session (s : State) (e : Event) : (s.record e).session = s.session := rfl
@[simp] theorem State.record_work (s : State) (e : Event) : (s.record e).work = s.work := rfl
@[simp] theorem State.record_staging (s : State) (e : Event) : (s.record e).staging = s.staging := rfl
@[simp] theorem State.record_hostFault (s : State) (e : Event) : (s.record e).hostFault = s.hostFault := rfl
@[simp] theorem State.record_mem (s : State) (e : Event) : (s.record e).mem = s.mem := rfl
@[simp] theorem State.record_captured (s : State) (e : Event) : (s.record e).captured = s.captured := rfl
@[simp] theorem State.record_command (s : State) (e : Event) : (s.record e).command = s.command := rfl
@[simp] theorem State.record_pending (s : State) (e : Event) : (s.record e).pending = s.pending := rfl
@[simp] theorem State.record_kind (s : State) (e : Event) : (s.record e).kind = s.kind := rfl
@[simp] theorem State.record_ovr (s : State) (e : Event) : (s.record e).ovr = s.ovr := rfl
@[simp] theorem State.record_todo (s : State) (e : Event) : (s.record e).todo = s.todo := rfl
@[simp] theorem State.record_pins (s : State) (e : Event) : (s.record e).pins = s.pins := rfl
@[simp] theorem State.record_logRev (s : State) (e : Event) : (s.record e).logRev = e :: s.logRev := rfl
@[simp] theorem State.record_peer (s : State) (e : Event) : (s.record e).peer = s.peer := rfl
@[simp] theorem State.record_host (s : State) (e : Event) : (s.record e).host = s.host := rfl
@[simp] theorem State.record_responsesRev (s : State) (e : Event) : (s.record e).responsesRev = s.responsesRev := rfl
@[simp] theorem State.record_readFault (s : State) (e : Event) : (s.record e).readFault = s.readFault := rfl
@[simp] theorem State.record_epoch (s : State) (e : Event) : (s.record e).epoch = s.epoch := rfl
@[simp] theorem State.record_freeSweeps (s : State) (e : Event) : (s.record e).freeSweeps = s.freeSweeps := rfl

/-! ### enter -/

@[simp] theorem State.enter_params (s : State) (f : Fsm) : (s.enter f).params = s.params := rfl
@[simp] theorem State.enter_cfg (s : State) (f : Fsm) : (s.enter f).cfg = s.cfg := rfl
@[simp] theorem State.enter_budget (s : State) (f : Fsm) : (s.enter f).budget = s.budget := rfl
@[simp] theorem State.enter_prevValid (s : State) (f : Fsm) : (s.enter f).prevValid = s.prevValid := rfl
@[simp] theorem State.enter_fsm (s : State) (f : Fsm) : (s.enter f).fsm = f := rfl
@[simp] theorem State.enter_busy (s : State) (f : Fsm) : (s.enter f).busy = s.busy := rfl
@[simp] theorem State.enter_lastResult (s : State) (f : Fsm) : (s.enter f).lastResult = s.lastResult := rfl
@[simp] theorem State.enter_session (s : State) (f : Fsm) : (s.enter f).session = s.session := rfl
@[simp] theorem State.enter_work (s : State) (f : Fsm) : (s.enter f).work = s.work := rfl
@[simp] theorem State.enter_staging (s : State) (f : Fsm) : (s.enter f).staging = s.staging := rfl
@[simp] theorem State.enter_hostFault (s : State) (f : Fsm) : (s.enter f).hostFault = s.hostFault := rfl
@[simp] theorem State.enter_mem (s : State) (f : Fsm) : (s.enter f).mem = s.mem := rfl
@[simp] theorem State.enter_captured (s : State) (f : Fsm) : (s.enter f).captured = s.captured := rfl
@[simp] theorem State.enter_command (s : State) (f : Fsm) : (s.enter f).command = s.command := rfl
@[simp] theorem State.enter_pending (s : State) (f : Fsm) : (s.enter f).pending = s.pending := rfl
@[simp] theorem State.enter_kind (s : State) (f : Fsm) : (s.enter f).kind = s.kind := rfl
@[simp] theorem State.enter_ovr (s : State) (f : Fsm) : (s.enter f).ovr = s.ovr := rfl
@[simp] theorem State.enter_todo (s : State) (f : Fsm) : (s.enter f).todo = s.todo := rfl
@[simp] theorem State.enter_pins (s : State) (f : Fsm) : (s.enter f).pins = s.pins := rfl
@[simp] theorem State.enter_logRev (s : State) (f : Fsm) : (s.enter f).logRev = s.logRev := rfl
@[simp] theorem State.enter_peer (s : State) (f : Fsm) : (s.enter f).peer = s.peer := rfl
@[simp] theorem State.enter_host (s : State) (f : Fsm) : (s.enter f).host = s.host := rfl
@[simp] theorem State.enter_responsesRev (s : State) (f : Fsm) : (s.enter f).responsesRev = s.responsesRev := rfl
@[simp] theorem State.enter_readFault (s : State) (f : Fsm) : (s.enter f).readFault = s.readFault := rfl
@[simp] theorem State.enter_epoch (s : State) (f : Fsm) : (s.enter f).epoch = s.epoch := rfl
@[simp] theorem State.enter_freeSweeps (s : State) (f : Fsm) : (s.enter f).freeSweeps = s.freeSweeps := rfl

/-! ### plan -/

@[simp] theorem State.plan_params (s : State) (ops : List Op) : (s.plan ops).params = s.params := rfl
@[simp] theorem State.plan_cfg (s : State) (ops : List Op) : (s.plan ops).cfg = s.cfg := rfl
@[simp] theorem State.plan_budget (s : State) (ops : List Op) : (s.plan ops).budget = s.budget := rfl
@[simp] theorem State.plan_prevValid (s : State) (ops : List Op) : (s.plan ops).prevValid = s.prevValid := rfl
@[simp] theorem State.plan_fsm (s : State) (ops : List Op) : (s.plan ops).fsm = s.fsm := rfl
@[simp] theorem State.plan_busy (s : State) (ops : List Op) : (s.plan ops).busy = s.busy := rfl
@[simp] theorem State.plan_lastResult (s : State) (ops : List Op) : (s.plan ops).lastResult = s.lastResult := rfl
@[simp] theorem State.plan_session (s : State) (ops : List Op) : (s.plan ops).session = s.session := rfl
@[simp] theorem State.plan_work (s : State) (ops : List Op) : (s.plan ops).work = s.work := rfl
@[simp] theorem State.plan_staging (s : State) (ops : List Op) : (s.plan ops).staging = s.staging := rfl
@[simp] theorem State.plan_hostFault (s : State) (ops : List Op) : (s.plan ops).hostFault = s.hostFault := rfl
@[simp] theorem State.plan_mem (s : State) (ops : List Op) : (s.plan ops).mem = s.mem := rfl
@[simp] theorem State.plan_captured (s : State) (ops : List Op) : (s.plan ops).captured = s.captured := rfl
@[simp] theorem State.plan_command (s : State) (ops : List Op) : (s.plan ops).command = s.command := rfl
@[simp] theorem State.plan_pending (s : State) (ops : List Op) : (s.plan ops).pending = s.pending := rfl
@[simp] theorem State.plan_kind (s : State) (ops : List Op) : (s.plan ops).kind = s.kind := rfl
@[simp] theorem State.plan_ovr (s : State) (ops : List Op) : (s.plan ops).ovr = s.ovr := rfl
@[simp] theorem State.plan_todo (s : State) (ops : List Op) : (s.plan ops).todo = ops := rfl
@[simp] theorem State.plan_pins (s : State) (ops : List Op) : (s.plan ops).pins = s.pins := rfl
@[simp] theorem State.plan_logRev (s : State) (ops : List Op) : (s.plan ops).logRev = s.logRev := rfl
@[simp] theorem State.plan_peer (s : State) (ops : List Op) : (s.plan ops).peer = s.peer := rfl
@[simp] theorem State.plan_host (s : State) (ops : List Op) : (s.plan ops).host = s.host := rfl
@[simp] theorem State.plan_responsesRev (s : State) (ops : List Op) :
    (s.plan ops).responsesRev = s.responsesRev := rfl
@[simp] theorem State.plan_readFault (s : State) (ops : List Op) : (s.plan ops).readFault = s.readFault := rfl
@[simp] theorem State.plan_epoch (s : State) (ops : List Op) : (s.plan ops).epoch = s.epoch := rfl
@[simp] theorem State.plan_freeSweeps (s : State) (ops : List Op) : (s.plan ops).freeSweeps = s.freeSweeps := rfl

/-! ### respond -/

@[simp] theorem State.respond_params (s : State) (r : Response) : (s.respond r).params = s.params := rfl
@[simp] theorem State.respond_cfg (s : State) (r : Response) : (s.respond r).cfg = s.cfg := rfl
@[simp] theorem State.respond_budget (s : State) (r : Response) : (s.respond r).budget = s.budget := rfl
@[simp] theorem State.respond_prevValid (s : State) (r : Response) : (s.respond r).prevValid = s.prevValid := rfl
@[simp] theorem State.respond_fsm (s : State) (r : Response) : (s.respond r).fsm = s.fsm := rfl
@[simp] theorem State.respond_busy (s : State) (r : Response) : (s.respond r).busy = s.busy := rfl
@[simp] theorem State.respond_lastResult (s : State) (r : Response) : (s.respond r).lastResult = s.lastResult := rfl
@[simp] theorem State.respond_session (s : State) (r : Response) : (s.respond r).session = s.session := rfl
@[simp] theorem State.respond_work (s : State) (r : Response) : (s.respond r).work = s.work := rfl
@[simp] theorem State.respond_staging (s : State) (r : Response) : (s.respond r).staging = s.staging := rfl
@[simp] theorem State.respond_hostFault (s : State) (r : Response) : (s.respond r).hostFault = s.hostFault := rfl
@[simp] theorem State.respond_mem (s : State) (r : Response) : (s.respond r).mem = s.mem := rfl
@[simp] theorem State.respond_captured (s : State) (r : Response) : (s.respond r).captured = s.captured := rfl
@[simp] theorem State.respond_command (s : State) (r : Response) : (s.respond r).command = s.command := rfl
@[simp] theorem State.respond_pending (s : State) (r : Response) : (s.respond r).pending = s.pending := rfl
@[simp] theorem State.respond_kind (s : State) (r : Response) : (s.respond r).kind = s.kind := rfl
@[simp] theorem State.respond_ovr (s : State) (r : Response) : (s.respond r).ovr = s.ovr := rfl
@[simp] theorem State.respond_todo (s : State) (r : Response) : (s.respond r).todo = s.todo := rfl
@[simp] theorem State.respond_pins (s : State) (r : Response) : (s.respond r).pins = s.pins := rfl
@[simp] theorem State.respond_logRev (s : State) (r : Response) : (s.respond r).logRev = s.logRev := rfl
@[simp] theorem State.respond_peer (s : State) (r : Response) : (s.respond r).peer = s.peer := rfl
@[simp] theorem State.respond_host (s : State) (r : Response) : (s.respond r).host = s.host := rfl
@[simp] theorem State.respond_responsesRev (s : State) (r : Response) :
    (s.respond r).responsesRev = r :: s.responsesRev := rfl
@[simp] theorem State.respond_readFault (s : State) (r : Response) : (s.respond r).readFault = s.readFault := rfl
@[simp] theorem State.respond_epoch (s : State) (r : Response) : (s.respond r).epoch = s.epoch := rfl
@[simp] theorem State.respond_freeSweeps (s : State) (r : Response) : (s.respond r).freeSweeps = s.freeSweeps := rfl

/-! ### exchange -/

@[simp] theorem State.exchange_params (s : State) (b : Byte) : (s.exchange b).params = s.params := rfl
@[simp] theorem State.exchange_cfg (s : State) (b : Byte) : (s.exchange b).cfg = s.cfg := rfl
@[simp] theorem State.exchange_budget (s : State) (b : Byte) : (s.exchange b).budget = s.budget := rfl
@[simp] theorem State.exchange_prevValid (s : State) (b : Byte) : (s.exchange b).prevValid = s.prevValid := rfl
@[simp] theorem State.exchange_fsm (s : State) (b : Byte) : (s.exchange b).fsm = s.fsm := rfl
@[simp] theorem State.exchange_busy (s : State) (b : Byte) : (s.exchange b).busy = s.busy := rfl
@[simp] theorem State.exchange_lastResult (s : State) (b : Byte) : (s.exchange b).lastResult = s.lastResult := rfl
@[simp] theorem State.exchange_session (s : State) (b : Byte) : (s.exchange b).session = s.session := rfl
@[simp] theorem State.exchange_work (s : State) (b : Byte) : (s.exchange b).work = s.work := rfl
@[simp] theorem State.exchange_staging (s : State) (b : Byte) : (s.exchange b).staging = s.staging := rfl
@[simp] theorem State.exchange_hostFault (s : State) (b : Byte) : (s.exchange b).hostFault = s.hostFault := rfl
@[simp] theorem State.exchange_mem (s : State) (b : Byte) : (s.exchange b).mem = s.mem := rfl
@[simp] theorem State.exchange_captured (s : State) (b : Byte) : (s.exchange b).captured = s.captured := rfl
@[simp] theorem State.exchange_command (s : State) (b : Byte) : (s.exchange b).command = s.command := rfl
@[simp] theorem State.exchange_pending (s : State) (b : Byte) : (s.exchange b).pending = s.pending := rfl
@[simp] theorem State.exchange_kind (s : State) (b : Byte) : (s.exchange b).kind = s.kind := rfl
@[simp] theorem State.exchange_ovr (s : State) (b : Byte) : (s.exchange b).ovr = s.ovr := rfl
@[simp] theorem State.exchange_todo (s : State) (b : Byte) : (s.exchange b).todo = s.todo := rfl
@[simp] theorem State.exchange_pins (s : State) (b : Byte) : (s.exchange b).pins = s.pins := rfl
@[simp] theorem State.exchange_logRev (s : State) (b : Byte) :
    (s.exchange b).logRev = .xchg b (s.peer.byteAt 0) :: s.logRev := rfl
@[simp] theorem State.exchange_peer (s : State) (b : Byte) : (s.exchange b).peer = s.peer.tookByte := rfl
@[simp] theorem State.exchange_host (s : State) (b : Byte) : (s.exchange b).host = s.host := rfl
@[simp] theorem State.exchange_responsesRev (s : State) (b : Byte) :
    (s.exchange b).responsesRev = s.responsesRev := rfl
@[simp] theorem State.exchange_readFault (s : State) (b : Byte) : (s.exchange b).readFault = s.readFault := rfl
@[simp] theorem State.exchange_epoch (s : State) (b : Byte) : (s.exchange b).epoch = s.epoch := rfl
@[simp] theorem State.exchange_freeSweeps (s : State) (b : Byte) : (s.exchange b).freeSweeps = s.freeSweeps := rfl

/-! ### pinWrite -/

@[simp] theorem State.pinWrite_params (s : State) (p : PinId) (l : Level) : (s.pinWrite p l).params = s.params := rfl
@[simp] theorem State.pinWrite_cfg (s : State) (p : PinId) (l : Level) : (s.pinWrite p l).cfg = s.cfg := rfl
@[simp] theorem State.pinWrite_budget (s : State) (p : PinId) (l : Level) : (s.pinWrite p l).budget = s.budget := rfl
@[simp] theorem State.pinWrite_prevValid (s : State) (p : PinId) (l : Level) :
    (s.pinWrite p l).prevValid = s.prevValid := rfl
@[simp] theorem State.pinWrite_fsm (s : State) (p : PinId) (l : Level) : (s.pinWrite p l).fsm = s.fsm := rfl
@[simp] theorem State.pinWrite_busy (s : State) (p : PinId) (l : Level) : (s.pinWrite p l).busy = s.busy := rfl
@[simp] theorem State.pinWrite_lastResult (s : State) (p : PinId) (l : Level) :
    (s.pinWrite p l).lastResult = s.lastResult := rfl
@[simp] theorem State.pinWrite_session (s : State) (p : PinId) (l : Level) :
    (s.pinWrite p l).session = s.session := rfl
@[simp] theorem State.pinWrite_work (s : State) (p : PinId) (l : Level) : (s.pinWrite p l).work = s.work := rfl
@[simp] theorem State.pinWrite_staging (s : State) (p : PinId) (l : Level) :
    (s.pinWrite p l).staging = s.staging := rfl
@[simp] theorem State.pinWrite_hostFault (s : State) (p : PinId) (l : Level) :
    (s.pinWrite p l).hostFault = s.hostFault := rfl
@[simp] theorem State.pinWrite_mem (s : State) (p : PinId) (l : Level) : (s.pinWrite p l).mem = s.mem := rfl
@[simp] theorem State.pinWrite_captured (s : State) (p : PinId) (l : Level) :
    (s.pinWrite p l).captured = s.captured := rfl
@[simp] theorem State.pinWrite_command (s : State) (p : PinId) (l : Level) :
    (s.pinWrite p l).command = s.command := rfl
@[simp] theorem State.pinWrite_pending (s : State) (p : PinId) (l : Level) :
    (s.pinWrite p l).pending = s.pending := rfl
@[simp] theorem State.pinWrite_kind (s : State) (p : PinId) (l : Level) : (s.pinWrite p l).kind = s.kind := rfl
@[simp] theorem State.pinWrite_ovr (s : State) (p : PinId) (l : Level) : (s.pinWrite p l).ovr = s.ovr := rfl
@[simp] theorem State.pinWrite_todo (s : State) (p : PinId) (l : Level) : (s.pinWrite p l).todo = s.todo := rfl
@[simp] theorem State.pinWrite_pins (s : State) (p : PinId) (l : Level) :
    (s.pinWrite p l).pins = sparsePut s.pins p l := rfl
@[simp] theorem State.pinWrite_logRev (s : State) (p : PinId) (l : Level) :
    (s.pinWrite p l).logRev = .set p l :: s.logRev := rfl
@[simp] theorem State.pinWrite_peer (s : State) (p : PinId) (l : Level) : (s.pinWrite p l).peer = s.peer := rfl
@[simp] theorem State.pinWrite_host (s : State) (p : PinId) (l : Level) : (s.pinWrite p l).host = s.host := rfl
@[simp] theorem State.pinWrite_responsesRev (s : State) (p : PinId) (l : Level) :
    (s.pinWrite p l).responsesRev = s.responsesRev := rfl
@[simp] theorem State.pinWrite_readFault (s : State) (p : PinId) (l : Level) :
    (s.pinWrite p l).readFault = s.readFault := rfl
@[simp] theorem State.pinWrite_epoch (s : State) (p : PinId) (l : Level) : (s.pinWrite p l).epoch = s.epoch := rfl
@[simp] theorem State.pinWrite_freeSweeps (s : State) (p : PinId) (l : Level) :
    (s.pinWrite p l).freeSweeps = s.freeSweeps := rfl

/-! ### pinRead -/

@[simp] theorem State.pinRead_params (s : State) (p : PinId) : (s.pinRead p).params = s.params := rfl
@[simp] theorem State.pinRead_cfg (s : State) (p : PinId) : (s.pinRead p).cfg = s.cfg := rfl
@[simp] theorem State.pinRead_budget (s : State) (p : PinId) : (s.pinRead p).budget = s.budget := rfl
@[simp] theorem State.pinRead_prevValid (s : State) (p : PinId) : (s.pinRead p).prevValid = s.prevValid := rfl
@[simp] theorem State.pinRead_fsm (s : State) (p : PinId) : (s.pinRead p).fsm = s.fsm := rfl
@[simp] theorem State.pinRead_busy (s : State) (p : PinId) : (s.pinRead p).busy = s.busy := rfl
@[simp] theorem State.pinRead_lastResult (s : State) (p : PinId) : (s.pinRead p).lastResult = s.lastResult := rfl
@[simp] theorem State.pinRead_session (s : State) (p : PinId) : (s.pinRead p).session = s.session := rfl
@[simp] theorem State.pinRead_work (s : State) (p : PinId) : (s.pinRead p).work = s.work := rfl
@[simp] theorem State.pinRead_staging (s : State) (p : PinId) : (s.pinRead p).staging = s.staging := rfl
@[simp] theorem State.pinRead_hostFault (s : State) (p : PinId) : (s.pinRead p).hostFault = s.hostFault := rfl
@[simp] theorem State.pinRead_mem (s : State) (p : PinId) : (s.pinRead p).mem = s.mem := rfl
@[simp] theorem State.pinRead_captured (s : State) (p : PinId) : (s.pinRead p).captured = s.captured := rfl
@[simp] theorem State.pinRead_command (s : State) (p : PinId) : (s.pinRead p).command = s.command := rfl
@[simp] theorem State.pinRead_pending (s : State) (p : PinId) : (s.pinRead p).pending = s.pending := rfl
@[simp] theorem State.pinRead_kind (s : State) (p : PinId) : (s.pinRead p).kind = s.kind := rfl
@[simp] theorem State.pinRead_ovr (s : State) (p : PinId) : (s.pinRead p).ovr = s.ovr := rfl
@[simp] theorem State.pinRead_todo (s : State) (p : PinId) : (s.pinRead p).todo = s.todo := rfl
@[simp] theorem State.pinRead_pins (s : State) (p : PinId) : (s.pinRead p).pins = s.pins := rfl
@[simp] theorem State.pinRead_logRev (s : State) (p : PinId) :
    (s.pinRead p).logRev = .get p s.peer.nextLevel :: s.logRev := rfl
@[simp] theorem State.pinRead_peer (s : State) (p : PinId) : (s.pinRead p).peer = s.peer.tookLevel := rfl
@[simp] theorem State.pinRead_host (s : State) (p : PinId) : (s.pinRead p).host = s.host := rfl
@[simp] theorem State.pinRead_responsesRev (s : State) (p : PinId) :
    (s.pinRead p).responsesRev = s.responsesRev := rfl
@[simp] theorem State.pinRead_readFault (s : State) (p : PinId) : (s.pinRead p).readFault = s.readFault := rfl
@[simp] theorem State.pinRead_epoch (s : State) (p : PinId) : (s.pinRead p).epoch = s.epoch := rfl
@[simp] theorem State.pinRead_freeSweeps (s : State) (p : PinId) : (s.pinRead p).freeSweeps = s.freeSweeps := rfl

/-! ### readClock -/

@[simp] theorem State.readClock_params (s : State) : (s.readClock).params = s.params := rfl
@[simp] theorem State.readClock_cfg (s : State) : (s.readClock).cfg = s.cfg := rfl
@[simp] theorem State.readClock_budget (s : State) : (s.readClock).budget = s.budget := rfl
@[simp] theorem State.readClock_prevValid (s : State) : (s.readClock).prevValid = s.prevValid := rfl
@[simp] theorem State.readClock_fsm (s : State) : (s.readClock).fsm = s.fsm := rfl
@[simp] theorem State.readClock_busy (s : State) : (s.readClock).busy = s.busy := rfl
@[simp] theorem State.readClock_lastResult (s : State) : (s.readClock).lastResult = s.lastResult := rfl
@[simp] theorem State.readClock_session (s : State) : (s.readClock).session = s.session := rfl
@[simp] theorem State.readClock_work (s : State) : (s.readClock).work = s.work := rfl
@[simp] theorem State.readClock_staging (s : State) : (s.readClock).staging = s.staging := rfl
@[simp] theorem State.readClock_hostFault (s : State) : (s.readClock).hostFault = s.hostFault := rfl
@[simp] theorem State.readClock_mem (s : State) : (s.readClock).mem = s.mem := rfl
@[simp] theorem State.readClock_captured (s : State) : (s.readClock).captured = s.captured := rfl
@[simp] theorem State.readClock_command (s : State) : (s.readClock).command = s.command := rfl
@[simp] theorem State.readClock_pending (s : State) : (s.readClock).pending = s.pending := rfl
@[simp] theorem State.readClock_kind (s : State) : (s.readClock).kind = s.kind := rfl
@[simp] theorem State.readClock_ovr (s : State) : (s.readClock).ovr = s.ovr := rfl
@[simp] theorem State.readClock_todo (s : State) : (s.readClock).todo = s.todo := rfl
@[simp] theorem State.readClock_pins (s : State) : (s.readClock).pins = s.pins := rfl
@[simp] theorem State.readClock_logRev (s : State) : (s.readClock).logRev = .clock s.peer.nextNow :: s.logRev := rfl
@[simp] theorem State.readClock_peer (s : State) : (s.readClock).peer = s.peer.tookNow := rfl
@[simp] theorem State.readClock_host (s : State) : (s.readClock).host = s.host := rfl
@[simp] theorem State.readClock_responsesRev (s : State) : (s.readClock).responsesRev = s.responsesRev := rfl
@[simp] theorem State.readClock_readFault (s : State) : (s.readClock).readFault = s.readFault := rfl
@[simp] theorem State.readClock_epoch (s : State) : (s.readClock).epoch = s.epoch := rfl
@[simp] theorem State.readClock_freeSweeps (s : State) : (s.readClock).freeSweeps = s.freeSweeps := rfl

/-! ### sessionBegin -/

@[simp] theorem State.sessionBegin_params (s : State) : (s.sessionBegin).params = s.params := rfl
@[simp] theorem State.sessionBegin_cfg (s : State) : (s.sessionBegin).cfg = s.cfg := rfl
@[simp] theorem State.sessionBegin_budget (s : State) : (s.sessionBegin).budget = s.budget := rfl
@[simp] theorem State.sessionBegin_prevValid (s : State) : (s.sessionBegin).prevValid = s.prevValid := rfl
@[simp] theorem State.sessionBegin_fsm (s : State) : (s.sessionBegin).fsm = s.fsm := rfl
@[simp] theorem State.sessionBegin_busy (s : State) : (s.sessionBegin).busy = s.busy := rfl
@[simp] theorem State.sessionBegin_lastResult (s : State) : (s.sessionBegin).lastResult = s.lastResult := rfl
@[simp] theorem State.sessionBegin_session (s : State) : (s.sessionBegin).session = true := rfl
@[simp] theorem State.sessionBegin_work (s : State) : (s.sessionBegin).work = s.work := rfl
@[simp] theorem State.sessionBegin_staging (s : State) : (s.sessionBegin).staging = s.staging := rfl
@[simp] theorem State.sessionBegin_hostFault (s : State) : (s.sessionBegin).hostFault = s.hostFault := rfl
@[simp] theorem State.sessionBegin_mem (s : State) : (s.sessionBegin).mem = s.mem := rfl
@[simp] theorem State.sessionBegin_captured (s : State) : (s.sessionBegin).captured = s.captured := rfl
@[simp] theorem State.sessionBegin_command (s : State) : (s.sessionBegin).command = s.command := rfl
@[simp] theorem State.sessionBegin_pending (s : State) : (s.sessionBegin).pending = s.pending := rfl
@[simp] theorem State.sessionBegin_kind (s : State) : (s.sessionBegin).kind = s.kind := rfl
@[simp] theorem State.sessionBegin_ovr (s : State) : (s.sessionBegin).ovr = s.ovr := rfl
@[simp] theorem State.sessionBegin_todo (s : State) : (s.sessionBegin).todo = s.todo := rfl
@[simp] theorem State.sessionBegin_pins (s : State) : (s.sessionBegin).pins = s.pins := rfl
@[simp] theorem State.sessionBegin_logRev (s : State) :
    (s.sessionBegin).logRev = .begin s.params.clockMode :: s.logRev := rfl
@[simp] theorem State.sessionBegin_peer (s : State) : (s.sessionBegin).peer = s.peer := rfl
@[simp] theorem State.sessionBegin_host (s : State) : (s.sessionBegin).host = s.host := rfl
@[simp] theorem State.sessionBegin_responsesRev (s : State) : (s.sessionBegin).responsesRev = s.responsesRev := rfl
@[simp] theorem State.sessionBegin_readFault (s : State) : (s.sessionBegin).readFault = s.readFault := rfl
@[simp] theorem State.sessionBegin_epoch (s : State) : (s.sessionBegin).epoch = s.epoch := rfl
@[simp] theorem State.sessionBegin_freeSweeps (s : State) : (s.sessionBegin).freeSweeps = s.freeSweeps := rfl

/-! ### sessionEnd -/

@[simp] theorem State.sessionEnd_params (s : State) : (s.sessionEnd).params = s.params := rfl
@[simp] theorem State.sessionEnd_cfg (s : State) : (s.sessionEnd).cfg = s.cfg := rfl
@[simp] theorem State.sessionEnd_budget (s : State) : (s.sessionEnd).budget = s.budget := rfl
@[simp] theorem State.sessionEnd_prevValid (s : State) : (s.sessionEnd).prevValid = s.prevValid := rfl
@[simp] theorem State.sessionEnd_fsm (s : State) : (s.sessionEnd).fsm = s.fsm := rfl
@[simp] theorem State.sessionEnd_busy (s : State) : (s.sessionEnd).busy = s.busy := rfl
@[simp] theorem State.sessionEnd_lastResult (s : State) : (s.sessionEnd).lastResult = s.lastResult := rfl
@[simp] theorem State.sessionEnd_session (s : State) : (s.sessionEnd).session = false := rfl
@[simp] theorem State.sessionEnd_work (s : State) : (s.sessionEnd).work = s.work := rfl
@[simp] theorem State.sessionEnd_staging (s : State) : (s.sessionEnd).staging = s.staging := rfl
@[simp] theorem State.sessionEnd_hostFault (s : State) : (s.sessionEnd).hostFault = s.hostFault := rfl
@[simp] theorem State.sessionEnd_mem (s : State) : (s.sessionEnd).mem = s.mem := rfl
@[simp] theorem State.sessionEnd_captured (s : State) : (s.sessionEnd).captured = s.captured := rfl
@[simp] theorem State.sessionEnd_command (s : State) : (s.sessionEnd).command = s.command := rfl
@[simp] theorem State.sessionEnd_pending (s : State) : (s.sessionEnd).pending = s.pending := rfl
@[simp] theorem State.sessionEnd_kind (s : State) : (s.sessionEnd).kind = s.kind := rfl
@[simp] theorem State.sessionEnd_ovr (s : State) : (s.sessionEnd).ovr = s.ovr := rfl
@[simp] theorem State.sessionEnd_todo (s : State) : (s.sessionEnd).todo = s.todo := rfl
@[simp] theorem State.sessionEnd_pins (s : State) : (s.sessionEnd).pins = s.pins := rfl
@[simp] theorem State.sessionEnd_logRev (s : State) : (s.sessionEnd).logRev = .finish :: s.logRev := rfl
@[simp] theorem State.sessionEnd_peer (s : State) : (s.sessionEnd).peer = s.peer := rfl
@[simp] theorem State.sessionEnd_host (s : State) : (s.sessionEnd).host = s.host := rfl
@[simp] theorem State.sessionEnd_responsesRev (s : State) : (s.sessionEnd).responsesRev = s.responsesRev := rfl
@[simp] theorem State.sessionEnd_readFault (s : State) : (s.sessionEnd).readFault = s.readFault := rfl
@[simp] theorem State.sessionEnd_epoch (s : State) : (s.sessionEnd).epoch = s.epoch := rfl
@[simp] theorem State.sessionEnd_freeSweeps (s : State) : (s.sessionEnd).freeSweeps = s.freeSweeps := rfl

/-! ### commitPrev -/

@[simp] theorem State.commitPrev_params (s : State) (size : PanelSize) : (s.commitPrev size).params = s.params := rfl
@[simp] theorem State.commitPrev_cfg (s : State) (size : PanelSize) : (s.commitPrev size).cfg = s.cfg := rfl
@[simp] theorem State.commitPrev_budget (s : State) (size : PanelSize) : (s.commitPrev size).budget = s.budget := rfl
@[simp] theorem State.commitPrev_prevValid (s : State) (size : PanelSize) :
    (s.commitPrev size).prevValid = true := rfl
@[simp] theorem State.commitPrev_fsm (s : State) (size : PanelSize) : (s.commitPrev size).fsm = s.fsm := rfl
@[simp] theorem State.commitPrev_busy (s : State) (size : PanelSize) : (s.commitPrev size).busy = s.busy := rfl
@[simp] theorem State.commitPrev_lastResult (s : State) (size : PanelSize) :
    (s.commitPrev size).lastResult = s.lastResult := rfl
@[simp] theorem State.commitPrev_session (s : State) (size : PanelSize) :
    (s.commitPrev size).session = s.session := rfl
@[simp] theorem State.commitPrev_work (s : State) (size : PanelSize) : (s.commitPrev size).work = s.work := rfl
@[simp] theorem State.commitPrev_staging (s : State) (size : PanelSize) :
    (s.commitPrev size).staging = s.staging := rfl
@[simp] theorem State.commitPrev_hostFault (s : State) (size : PanelSize) :
    (s.commitPrev size).hostFault = s.hostFault := rfl
@[simp] theorem State.commitPrev_mem (s : State) (size : PanelSize) :
    (s.commitPrev size).mem = s.mem.writeBlock prevBase (s.newFrame size.frameBytes) := rfl
@[simp] theorem State.commitPrev_captured (s : State) (size : PanelSize) :
    (s.commitPrev size).captured = s.captured := rfl
@[simp] theorem State.commitPrev_command (s : State) (size : PanelSize) :
    (s.commitPrev size).command = s.command := rfl
@[simp] theorem State.commitPrev_pending (s : State) (size : PanelSize) :
    (s.commitPrev size).pending = s.pending := rfl
@[simp] theorem State.commitPrev_kind (s : State) (size : PanelSize) : (s.commitPrev size).kind = s.kind := rfl
@[simp] theorem State.commitPrev_ovr (s : State) (size : PanelSize) : (s.commitPrev size).ovr = s.ovr := rfl
@[simp] theorem State.commitPrev_todo (s : State) (size : PanelSize) : (s.commitPrev size).todo = s.todo := rfl
@[simp] theorem State.commitPrev_pins (s : State) (size : PanelSize) : (s.commitPrev size).pins = s.pins := rfl
@[simp] theorem State.commitPrev_logRev (s : State) (size : PanelSize) : (s.commitPrev size).logRev = s.logRev := rfl
@[simp] theorem State.commitPrev_peer (s : State) (size : PanelSize) : (s.commitPrev size).peer = s.peer := rfl
@[simp] theorem State.commitPrev_host (s : State) (size : PanelSize) : (s.commitPrev size).host = s.host := rfl
@[simp] theorem State.commitPrev_responsesRev (s : State) (size : PanelSize) :
    (s.commitPrev size).responsesRev = s.responsesRev := rfl
@[simp] theorem State.commitPrev_readFault (s : State) (size : PanelSize) :
    (s.commitPrev size).readFault = s.readFault := rfl
@[simp] theorem State.commitPrev_epoch (s : State) (size : PanelSize) : (s.commitPrev size).epoch = s.epoch := rfl
@[simp] theorem State.commitPrev_freeSweeps (s : State) (size : PanelSize) :
    (s.commitPrev size).freeSweeps = s.freeSweeps := rfl

/-! ### complete -/

@[simp] theorem State.complete_params (s : State) (code : ResultCode) : (s.complete code).params = s.params := rfl
@[simp] theorem State.complete_cfg (s : State) (code : ResultCode) : (s.complete code).cfg = s.cfg := rfl
@[simp] theorem State.complete_budget (s : State) (code : ResultCode) : (s.complete code).budget = s.budget := rfl
@[simp] theorem State.complete_prevValid (s : State) (code : ResultCode) :
    (s.complete code).prevValid = s.prevValid := rfl
@[simp] theorem State.complete_fsm (s : State) (code : ResultCode) : (s.complete code).fsm = s.fsm := rfl
@[simp] theorem State.complete_busy (s : State) (code : ResultCode) : (s.complete code).busy = false := rfl
@[simp] theorem State.complete_lastResult (s : State) (code : ResultCode) : (s.complete code).lastResult = code := rfl
@[simp] theorem State.complete_session (s : State) (code : ResultCode) : (s.complete code).session = s.session := rfl
@[simp] theorem State.complete_work (s : State) (code : ResultCode) : (s.complete code).work = s.work := rfl
@[simp] theorem State.complete_staging (s : State) (code : ResultCode) : (s.complete code).staging = s.staging := rfl
@[simp] theorem State.complete_hostFault (s : State) (code : ResultCode) :
    (s.complete code).hostFault = s.hostFault := rfl
@[simp] theorem State.complete_mem (s : State) (code : ResultCode) : (s.complete code).mem = s.mem := rfl
@[simp] theorem State.complete_captured (s : State) (code : ResultCode) :
    (s.complete code).captured = s.captured := rfl
@[simp] theorem State.complete_command (s : State) (code : ResultCode) : (s.complete code).command = s.command := rfl
@[simp] theorem State.complete_pending (s : State) (code : ResultCode) : (s.complete code).pending = s.pending := rfl
@[simp] theorem State.complete_kind (s : State) (code : ResultCode) : (s.complete code).kind = s.kind := rfl
@[simp] theorem State.complete_ovr (s : State) (code : ResultCode) : (s.complete code).ovr = s.ovr := rfl
@[simp] theorem State.complete_todo (s : State) (code : ResultCode) : (s.complete code).todo = [] := rfl
@[simp] theorem State.complete_pins (s : State) (code : ResultCode) : (s.complete code).pins = s.pins := rfl
@[simp] theorem State.complete_logRev (s : State) (code : ResultCode) : (s.complete code).logRev = s.logRev := rfl
@[simp] theorem State.complete_peer (s : State) (code : ResultCode) : (s.complete code).peer = s.peer := rfl
@[simp] theorem State.complete_host (s : State) (code : ResultCode) : (s.complete code).host = s.host := rfl
@[simp] theorem State.complete_responsesRev (s : State) (code : ResultCode) :
    (s.complete code).responsesRev = s.responsesRev := rfl
@[simp] theorem State.complete_readFault (s : State) (code : ResultCode) :
    (s.complete code).readFault = s.readFault := rfl
@[simp] theorem State.complete_epoch (s : State) (code : ResultCode) : (s.complete code).epoch = s.epoch := rfl
@[simp] theorem State.complete_freeSweeps (s : State) (code : ResultCode) :
    (s.complete code).freeSweeps = s.freeSweeps := rfl

/-! ### fail -/

@[simp] theorem State.fail_params (s : State) (off : List Op) (code : ResultCode) :
    (s.fail off code).params = s.params := rfl
@[simp] theorem State.fail_cfg (s : State) (off : List Op) (code : ResultCode) : (s.fail off code).cfg = s.cfg := rfl
@[simp] theorem State.fail_budget (s : State) (off : List Op) (code : ResultCode) :
    (s.fail off code).budget = s.budget := rfl
@[simp] theorem State.fail_prevValid (s : State) (off : List Op) (code : ResultCode) :
    (s.fail off code).prevValid = s.prevValid := rfl
@[simp] theorem State.fail_fsm (s : State) (off : List Op) (code : ResultCode) :
    (s.fail off code).fsm = .failed := rfl
@[simp] theorem State.fail_busy (s : State) (off : List Op) (code : ResultCode) :
    (s.fail off code).busy = s.busy := rfl
@[simp] theorem State.fail_lastResult (s : State) (off : List Op) (code : ResultCode) :
    (s.fail off code).lastResult = s.lastResult := rfl
@[simp] theorem State.fail_session (s : State) (off : List Op) (code : ResultCode) :
    (s.fail off code).session = s.session := rfl
@[simp] theorem State.fail_work (s : State) (off : List Op) (code : ResultCode) :
    (s.fail off code).work = s.work := rfl
@[simp] theorem State.fail_staging (s : State) (off : List Op) (code : ResultCode) :
    (s.fail off code).staging = s.staging := rfl
@[simp] theorem State.fail_hostFault (s : State) (off : List Op) (code : ResultCode) :
    (s.fail off code).hostFault = s.hostFault := rfl
@[simp] theorem State.fail_mem (s : State) (off : List Op) (code : ResultCode) : (s.fail off code).mem = s.mem := rfl
@[simp] theorem State.fail_captured (s : State) (off : List Op) (code : ResultCode) :
    (s.fail off code).captured = s.captured := rfl
@[simp] theorem State.fail_command (s : State) (off : List Op) (code : ResultCode) :
    (s.fail off code).command = s.command := rfl
@[simp] theorem State.fail_pending (s : State) (off : List Op) (code : ResultCode) :
    (s.fail off code).pending = s.pending := rfl
@[simp] theorem State.fail_kind (s : State) (off : List Op) (code : ResultCode) :
    (s.fail off code).kind = s.kind := rfl
@[simp] theorem State.fail_ovr (s : State) (off : List Op) (code : ResultCode) : (s.fail off code).ovr = s.ovr := rfl
@[simp] theorem State.fail_todo (s : State) (off : List Op) (code : ResultCode) :
    (s.fail off code).todo = off ++ [.complete code] := rfl
@[simp] theorem State.fail_pins (s : State) (off : List Op) (code : ResultCode) :
    (s.fail off code).pins = s.pins := rfl
@[simp] theorem State.fail_logRev (s : State) (off : List Op) (code : ResultCode) :
    (s.fail off code).logRev = s.logRev := rfl
@[simp] theorem State.fail_peer (s : State) (off : List Op) (code : ResultCode) :
    (s.fail off code).peer = s.peer := rfl
@[simp] theorem State.fail_host (s : State) (off : List Op) (code : ResultCode) :
    (s.fail off code).host = s.host := rfl
@[simp] theorem State.fail_responsesRev (s : State) (off : List Op) (code : ResultCode) :
    (s.fail off code).responsesRev = s.responsesRev := rfl
@[simp] theorem State.fail_readFault (s : State) (off : List Op) (code : ResultCode) :
    (s.fail off code).readFault = s.readFault := rfl
@[simp] theorem State.fail_epoch (s : State) (off : List Op) (code : ResultCode) :
    (s.fail off code).epoch = s.epoch := rfl
@[simp] theorem State.fail_freeSweeps (s : State) (off : List Op) (code : ResultCode) :
    (s.fail off code).freeSweeps = s.freeSweeps := rfl

/-! ### issue -/

@[simp] theorem State.issue_params (s : State) (w : Word32) : (s.issue w).params = s.params := rfl
@[simp] theorem State.issue_cfg (s : State) (w : Word32) : (s.issue w).cfg = s.cfg := rfl
@[simp] theorem State.issue_budget (s : State) (w : Word32) : (s.issue w).budget = s.budget := rfl
@[simp] theorem State.issue_prevValid (s : State) (w : Word32) : (s.issue w).prevValid = s.prevValid := rfl
@[simp] theorem State.issue_fsm (s : State) (w : Word32) : (s.issue w).fsm = s.fsm := rfl
@[simp] theorem State.issue_busy (s : State) (w : Word32) : (s.issue w).busy = true := rfl
@[simp] theorem State.issue_lastResult (s : State) (w : Word32) : (s.issue w).lastResult = s.lastResult := rfl
@[simp] theorem State.issue_session (s : State) (w : Word32) : (s.issue w).session = s.session := rfl
@[simp] theorem State.issue_work (s : State) (w : Word32) : (s.issue w).work = Work.initial := rfl
@[simp] theorem State.issue_staging (s : State) (w : Word32) : (s.issue w).staging = s.staging := rfl
@[simp] theorem State.issue_hostFault (s : State) (w : Word32) : (s.issue w).hostFault = s.hostFault := rfl
@[simp] theorem State.issue_mem (s : State) (w : Word32) : (s.issue w).mem = s.mem := rfl
@[simp] theorem State.issue_captured (s : State) (w : Word32) : (s.issue w).captured = s.staging := rfl
@[simp] theorem State.issue_command (s : State) (w : Word32) : (s.issue w).command = w := rfl
@[simp] theorem State.issue_pending (s : State) (w : Word32) : (s.issue w).pending = true := rfl
@[simp] theorem State.issue_kind (s : State) (w : Word32) : (s.issue w).kind = s.kind := rfl
@[simp] theorem State.issue_ovr (s : State) (w : Word32) : (s.issue w).ovr = s.ovr := rfl
@[simp] theorem State.issue_todo (s : State) (w : Word32) : (s.issue w).todo = s.todo := rfl
@[simp] theorem State.issue_pins (s : State) (w : Word32) : (s.issue w).pins = s.pins := rfl
@[simp] theorem State.issue_logRev (s : State) (w : Word32) : (s.issue w).logRev = [] := rfl
@[simp] theorem State.issue_peer (s : State) (w : Word32) : (s.issue w).peer = s.peer := rfl
@[simp] theorem State.issue_host (s : State) (w : Word32) : (s.issue w).host = s.host := rfl
@[simp] theorem State.issue_responsesRev (s : State) (w : Word32) : (s.issue w).responsesRev = s.responsesRev := rfl
@[simp] theorem State.issue_readFault (s : State) (w : Word32) : (s.issue w).readFault = s.readFault := rfl
@[simp] theorem State.issue_epoch (s : State) (w : Word32) : (s.issue w).epoch = s.epoch := rfl
@[simp] theorem State.issue_freeSweeps (s : State) (w : Word32) : (s.issue w).freeSweeps = s.freeSweeps := rfl

/-! ### startUpdate -/

@[simp] theorem State.startUpdate_params (s : State) (k : UpdateKind) (o : Bool) :
    (s.startUpdate k o).params = s.params := rfl
@[simp] theorem State.startUpdate_cfg (s : State) (k : UpdateKind) (o : Bool) : (s.startUpdate k o).cfg = s.cfg := rfl
@[simp] theorem State.startUpdate_budget (s : State) (k : UpdateKind) (o : Bool) :
    (s.startUpdate k o).budget = s.budget := rfl
@[simp] theorem State.startUpdate_prevValid (s : State) (k : UpdateKind) (o : Bool) :
    (s.startUpdate k o).prevValid = s.prevValid := rfl
@[simp] theorem State.startUpdate_fsm (s : State) (k : UpdateKind) (o : Bool) :
    (s.startUpdate k o).fsm = .validating := rfl
@[simp] theorem State.startUpdate_busy (s : State) (k : UpdateKind) (o : Bool) :
    (s.startUpdate k o).busy = s.busy := rfl
@[simp] theorem State.startUpdate_lastResult (s : State) (k : UpdateKind) (o : Bool) :
    (s.startUpdate k o).lastResult = s.lastResult := rfl
@[simp] theorem State.startUpdate_session (s : State) (k : UpdateKind) (o : Bool) :
    (s.startUpdate k o).session = s.session := rfl
@[simp] theorem State.startUpdate_work (s : State) (k : UpdateKind) (o : Bool) :
    (s.startUpdate k o).work = s.work := rfl
@[simp] theorem State.startUpdate_staging (s : State) (k : UpdateKind) (o : Bool) :
    (s.startUpdate k o).staging = s.staging := rfl
@[simp] theorem State.startUpdate_hostFault (s : State) (k : UpdateKind) (o : Bool) :
    (s.startUpdate k o).hostFault = s.hostFault := rfl
@[simp] theorem State.startUpdate_mem (s : State) (k : UpdateKind) (o : Bool) : (s.startUpdate k o).mem = s.mem := rfl
@[simp] theorem State.startUpdate_captured (s : State) (k : UpdateKind) (o : Bool) :
    (s.startUpdate k o).captured = s.captured := rfl
@[simp] theorem State.startUpdate_command (s : State) (k : UpdateKind) (o : Bool) :
    (s.startUpdate k o).command = s.command := rfl
@[simp] theorem State.startUpdate_pending (s : State) (k : UpdateKind) (o : Bool) :
    (s.startUpdate k o).pending = s.pending := rfl
@[simp] theorem State.startUpdate_kind (s : State) (k : UpdateKind) (o : Bool) : (s.startUpdate k o).kind = k := rfl
@[simp] theorem State.startUpdate_ovr (s : State) (k : UpdateKind) (o : Bool) : (s.startUpdate k o).ovr = o := rfl
@[simp] theorem State.startUpdate_todo (s : State) (k : UpdateKind) (o : Bool) :
    (s.startUpdate k o).todo = [.validate] := rfl
@[simp] theorem State.startUpdate_pins (s : State) (k : UpdateKind) (o : Bool) :
    (s.startUpdate k o).pins = s.pins := rfl
@[simp] theorem State.startUpdate_logRev (s : State) (k : UpdateKind) (o : Bool) :
    (s.startUpdate k o).logRev = s.logRev := rfl
@[simp] theorem State.startUpdate_peer (s : State) (k : UpdateKind) (o : Bool) :
    (s.startUpdate k o).peer = s.peer := rfl
@[simp] theorem State.startUpdate_host (s : State) (k : UpdateKind) (o : Bool) :
    (s.startUpdate k o).host = s.host := rfl
@[simp] theorem State.startUpdate_responsesRev (s : State) (k : UpdateKind) (o : Bool) :
    (s.startUpdate k o).responsesRev = s.responsesRev := rfl
@[simp] theorem State.startUpdate_readFault (s : State) (k : UpdateKind) (o : Bool) :
    (s.startUpdate k o).readFault = s.readFault := rfl
@[simp] theorem State.startUpdate_epoch (s : State) (k : UpdateKind) (o : Bool) :
    (s.startUpdate k o).epoch = s.epoch := rfl
@[simp] theorem State.startUpdate_freeSweeps (s : State) (k : UpdateKind) (o : Bool) :
    (s.startUpdate k o).freeSweeps = s.freeSweeps := rfl

/-! ### atByte -/

@[simp] theorem State.atByte_params (s : State) (i : Nat) : (s.atByte i).params = s.params := rfl
@[simp] theorem State.atByte_cfg (s : State) (i : Nat) : (s.atByte i).cfg = s.cfg := rfl
@[simp] theorem State.atByte_budget (s : State) (i : Nat) : (s.atByte i).budget = s.budget := rfl
@[simp] theorem State.atByte_prevValid (s : State) (i : Nat) : (s.atByte i).prevValid = s.prevValid := rfl
@[simp] theorem State.atByte_fsm (s : State) (i : Nat) : (s.atByte i).fsm = s.fsm := rfl
@[simp] theorem State.atByte_busy (s : State) (i : Nat) : (s.atByte i).busy = s.busy := rfl
@[simp] theorem State.atByte_lastResult (s : State) (i : Nat) : (s.atByte i).lastResult = s.lastResult := rfl
@[simp] theorem State.atByte_session (s : State) (i : Nat) : (s.atByte i).session = s.session := rfl
@[simp] theorem State.atByte_work (s : State) (i : Nat) : (s.atByte i).work = { s.work with byteIx := i } := rfl
@[simp] theorem State.atByte_staging (s : State) (i : Nat) : (s.atByte i).staging = s.staging := rfl
@[simp] theorem State.atByte_hostFault (s : State) (i : Nat) : (s.atByte i).hostFault = s.hostFault := rfl
@[simp] theorem State.atByte_mem (s : State) (i : Nat) : (s.atByte i).mem = s.mem := rfl
@[simp] theorem State.atByte_captured (s : State) (i : Nat) : (s.atByte i).captured = s.captured := rfl
@[simp] theorem State.atByte_command (s : State) (i : Nat) : (s.atByte i).command = s.command := rfl
@[simp] theorem State.atByte_pending (s : State) (i : Nat) : (s.atByte i).pending = s.pending := rfl
@[simp] theorem State.atByte_kind (s : State) (i : Nat) : (s.atByte i).kind = s.kind := rfl
@[simp] theorem State.atByte_ovr (s : State) (i : Nat) : (s.atByte i).ovr = s.ovr := rfl
@[simp] theorem State.atByte_todo (s : State) (i : Nat) : (s.atByte i).todo = s.todo := rfl
@[simp] theorem State.atByte_pins (s : State) (i : Nat) : (s.atByte i).pins = s.pins := rfl
@[simp] theorem State.atByte_logRev (s : State) (i : Nat) : (s.atByte i).logRev = s.logRev := rfl
@[simp] theorem State.atByte_peer (s : State) (i : Nat) : (s.atByte i).peer = s.peer := rfl
@[simp] theorem State.atByte_host (s : State) (i : Nat) : (s.atByte i).host = s.host := rfl
@[simp] theorem State.atByte_responsesRev (s : State) (i : Nat) : (s.atByte i).responsesRev = s.responsesRev := rfl
@[simp] theorem State.atByte_readFault (s : State) (i : Nat) : (s.atByte i).readFault = s.readFault := rfl
@[simp] theorem State.atByte_epoch (s : State) (i : Nat) : (s.atByte i).epoch = s.epoch := rfl
@[simp] theorem State.atByte_freeSweeps (s : State) (i : Nat) : (s.atByte i).freeSweeps = s.freeSweeps := rfl

end Sys2Proof.Machine
end

