-- ==== Sys2Proof/Laws/Ops.lean ====
section
/-! SUPPORT. What each shared operation can do, said once. -/

namespace Sys2Proof.Machine

@[simp] theorem log_record (s : State) (e : Event) : (s.record e).log = s.log ++ [e] := by simp [State.log]

@[simp] theorem log_exchange (s : State) (b : Byte) : (s.exchange b).log = s.log ++ [.xchg b (s.peer.byteAt 0)] := by
  simp [State.log]

@[simp] theorem log_pinWrite (s : State) (p : PinId) (l : Level) : (s.pinWrite p l).log = s.log ++ [.set p l] := by
  simp [State.log]

@[simp] theorem log_pinRead (s : State) (p : PinId) :
    (s.pinRead p).log = s.log ++ [.get p s.peer.nextLevel] := by simp [State.log]

@[simp] theorem log_readClock (s : State) : s.readClock.log = s.log ++ [.clock s.peer.nextNow] := by simp [State.log]

/-! ### The peer -/

/-- Taking an answer shifts the later ones by one. -/
@[simp] theorem byteAt_tookByte (p : Peer) (k : Nat) : p.tookByte.byteAt k = p.byteAt (k + 1) := by
  obtain ⟨bytes, levels, ticks, now, fb, fl, ft⟩ := p
  cases bytes with
  | nil => simp [Peer.tookByte, Peer.byteAt, Nat.add_assoc, Nat.add_comm 1 k]
  | cons b bs => simp [Peer.tookByte, Peer.byteAt]

@[simp] theorem byteAt_tookLevel (p : Peer) (k : Nat) : p.tookLevel.byteAt k = p.byteAt k := by
  unfold Peer.tookLevel; split <;> rfl

@[simp] theorem byteAt_tookNow (p : Peer) (k : Nat) : p.tookNow.byteAt k = p.byteAt k := by
  unfold Peer.tookNow; split <;> rfl

@[simp] theorem nextLevel_tookByte (p : Peer) : p.tookByte.nextLevel = p.nextLevel := by
  unfold Peer.tookByte; split <;> rfl

@[simp] theorem lastNow_tookByte (p : Peer) : p.tookByte.lastNow = p.lastNow := by
  unfold Peer.tookByte; split <;> rfl

@[simp] theorem lastNow_tookLevel (p : Peer) : p.tookLevel.lastNow = p.lastNow := by
  unfold Peer.tookLevel; split <;> rfl

@[simp] theorem lastNow_tookNow (p : Peer) : p.tookNow.lastNow = p.nextNow := by
  unfold Peer.tookNow; split <;> rfl

/-- `Now` never decreases (40_transport.md R131). -/
theorem lastNow_le_nextNow (p : Peer) : p.lastNow ≤ p.nextNow := Nat.le_add_right _ _

/-! ### Frames -/

/-- The peer after `n` exchanges. -/
def Peer.tookBytes (p : Peer) : Nat → Peer
  | 0 => p
  | n + 1 => p.tookByte.tookBytes n

@[simp] theorem byteAt_tookBytes (p : Peer) (n k : Nat) : (p.tookBytes n).byteAt k = p.byteAt (k + n) := by
  induction n generalizing p with
  | zero => rfl
  | succ n ih => rw [Peer.tookBytes, ih, byteAt_tookByte]; congr 1

@[simp] theorem tookBytes_tookByte (p : Peer) (n : Nat) : p.tookByte.tookBytes n = p.tookBytes (n + 1) := rfl

/-- What the calls of a frame can change: the peer, the pins and the log. -/
theorem frameRun_frame (s : State) (cs : PinId) (calls : List FrameCall) :
    s.frameRun cs calls =
      { s with
        peer := (s.frameRun cs calls).peer
        pins := (s.frameRun cs calls).pins
        logRev := (s.frameRun cs calls).logRev } := by
  induction calls generalizing s with
  | nil => rfl
  | cons c calls ih =>
    rw [State.frameRun, List.foldl_cons]
    change (State.frameCall cs s c).frameRun cs calls = _
    rw [ih]
    cases c <;> rfl

theorem exchanges_peer (s : State) (cs : PinId) (bytes : List Byte) :
    (s.frameRun cs (bytes.map .exchange)).peer = s.peer.tookBytes bytes.length := by
  induction bytes generalizing s with
  | nil => rfl
  | cons b bytes ih => exact ih (s.exchange b)

theorem exchanges_pins (s : State) (cs : PinId) (bytes : List Byte) :
    (s.frameRun cs (bytes.map .exchange)).pins = s.pins := by
  induction bytes generalizing s with
  | nil => rfl
  | cons b bytes ih => exact ih (s.exchange b)

theorem exchangeLog_shift (p : Peer) (k : Nat) (bytes : List Byte) :
    exchangeLog p.tookByte k bytes = exchangeLog p (k + 1) bytes := by
  induction bytes generalizing k with
  | nil => rfl
  | cons b bytes ih => simp [exchangeLog, ih]

theorem exchanges_log (s : State) (cs : PinId) (bytes : List Byte) :
    (s.frameRun cs (bytes.map .exchange)).log = s.log ++ exchangeLog s.peer 0 bytes := by
  induction bytes generalizing s with
  | nil => simp [State.frameRun, exchangeLog]
  | cons b bytes ih =>
    have h := ih (s.exchange b)
    rw [log_exchange, State.exchange_peer, exchangeLog_shift] at h
    rw [List.map_cons, exchangeLog, List.append_cons]
    exact h

/-- A sent frame: assert, the exchanges, deassert. -/
theorem sendFrame_eq (s : State) (cs : PinId) (bytes : List Byte) :
    s.sendFrame cs bytes = ((s.csAssert cs).frameRun cs (bytes.map .exchange)).csDeassert cs := by
  simp [State.sendFrame, frameCalls, State.frameRun, State.frameCall]

/-- What sending a frame does to the log (40_transport.md R136 to R138). -/
theorem sendFrame_log (s : State) (cs : PinId) (bytes : List Byte) :
    (s.sendFrame cs bytes).log = s.log ++ frameLog s.params cs s.peer 0 bytes := by
  rw [sendFrame_eq]
  have hp : ((s.csAssert cs).frameRun cs (bytes.map .exchange)).params = s.params := by
    rw [frameRun_frame]; rfl
  simp only [State.csDeassert_eq, log_pinWrite, exchanges_log, State.csAssert_eq, State.pinWrite_peer]
  rw [State.csAssert_eq] at hp
  rw [hp]
  simp [frameLog]

theorem sendFrame_peer (s : State) (cs : PinId) (bytes : List Byte) :
    (s.sendFrame cs bytes).peer = s.peer.tookBytes bytes.length := by
  rw [sendFrame_eq, State.csDeassert_eq, State.pinWrite_peer, exchanges_peer]
  rfl

/-- What sending a frame can change: the peer, the pins and the log. -/
theorem sendFrame_frame (s : State) (cs : PinId) (bytes : List Byte) :
    s.sendFrame cs bytes =
      { s with
        peer := (s.sendFrame cs bytes).peer
        pins := (s.sendFrame cs bytes).pins
        logRev := (s.sendFrame cs bytes).logRev } := frameRun_frame s cs (frameCalls bytes)

theorem frameRun_append (s : State) (cs : PinId) (a b : List FrameCall) :
    s.frameRun cs (a ++ b) = (s.frameRun cs a).frameRun cs b := List.foldl_append

/-- Sending a COG instruction: with a configuration it answers a next state, without one it faults. -/
theorem sendInstr_cases (i : Instr) (after : Byte → State → State) (s : State) :
    (s.cfg = none ∧ sendInstr i after s = .fault .noConfiguration) ∨
      ∃ c, s.cfg = some c ∧
        sendInstr i after s =
          .next (after (s.peer.byteAt ((frameBytes s.params.headers i).length - 1))
            (s.sendFrame c.cs (frameBytes s.params.headers i))) := by
  unfold sendInstr
  cases h : s.cfg with
  | none => exact .inl ⟨rfl, rfl⟩
  | some c => exact .inr ⟨c, rfl, rfl⟩

/-! ### Buffers -/

/-- A block read changes only the record of read faults. -/
theorem noteRead_cases (s : State) (src : FrameSource) (i : Nat) :
    s.noteRead src i = s ∨ ∃ a, s.noteRead src i = { s with readFault := some (.blockRead a) } := by
  unfold State.noteRead
  cases src with
  | zero => exact .inl rfl
  | buffer base =>
    dsimp only
    cases s.mem.read (base + i) with
    | none => exact .inr ⟨_, rfl⟩
    | some b => exact .inl rfl

/-- One block read: a byte nothing wrote since reset is recorded. -/
theorem noteRead_eq (s : State) (src : FrameSource) (i : Nat) :
    s.noteRead src i = { s with readFault := s.recordOf (src.offsets i) } := by
  unfold State.noteRead State.recordOf FrameSource.offsets
  cases src with
  | zero => rfl
  | buffer base => dsimp only; cases h : s.mem.read (base + i) <;> simp [h]

/-- The reads behind one mapped byte: they change only the record of reads, as `recordOf` says. -/
theorem noteMappedRead_eq (s : State) (prev : FrameSource) (i : Nat) :
    noteMappedRead s prev i = { s with readFault := s.recordOf (s.readsFor prev i) } := by
  have key : noteMappedRead s prev i = { s with readFault := (noteMappedRead s prev i).readFault } := by
    unfold noteMappedRead
    split <;> simp only [noteRead_eq]
  rw [key]
  congr 1
  unfold noteMappedRead State.readsFor stageSource
  cases s.kind <;> simp only [noteRead_eq]
  · split <;> rfl
  · unfold State.recordOf
    cases h : s.mem.read (newBase + i) <;> simp_all [newBase, FrameSource.offsets]

/-- After the commit, the first FB bytes of PREV are those of NEW and every other byte is as before
(43_frame_renderer.md R256). -/
theorem commitPrev_read (s : State) (size : PanelSize) (x : Nat) :
    (s.commitPrev size).mem.read x =
      if prevBase ≤ x ∧ x < prevBase + size.frameBytes then some (s.bufferByte (newBase + (x - prevBase)))
      else s.mem.read x := by
  rw [State.commitPrev_mem, memory_read_writeBlock]
  have hl : (s.newFrame size.frameBytes).length = size.frameBytes := by simp [State.newFrame]
  rw [hl]
  split
  · rename_i h
    have : x - prevBase < size.frameBytes := by omega
    simp [State.newFrame, this]
  · rfl

/-! ### Counting sweeps -/

/-- One sweep more: the count in its 31 bits, or a free value where they cannot hold it (10_state.md R23). -/
theorem countSweep_cases (s : State) :
    (s.work.sweep + 1 < 2 ^ 31 ∧ s.countSweep = { s with work := { s.work with sweep := s.work.sweep + 1 } }) ∨
      (2 ^ 31 ≤ s.work.sweep + 1 ∧ ∃ v : BitVec 31,
        s.countSweep = { s with work := { s.work with sweep := v.toNat }, freeSweeps := s.freeSweeps + 1 }) := by
  unfold State.countSweep
  split
  · exact .inl ⟨‹_›, rfl⟩
  · exact .inr ⟨by omega, _, rfl⟩

/-- The sweep count fits its register. -/
theorem countSweep_lt (s : State) : s.countSweep.work.sweep < 2 ^ 31 := by
  obtain ⟨h, e⟩ | ⟨-, v, e⟩ := countSweep_cases s
  · rw [e]; exact h
  · rw [e]; exact v.isLt

/-! ### The block's step -/

/-- With nothing for the host to do now, a step of the machine is a step of the block. -/
theorem step_of_no_host {s : State} (h : s.host = []) : step s = blockStep s := by simp [step, advance, h]

/-- One turn of `wait`: STATUS is read and answered, and nothing else of the block changes (30_encoding.md R96). -/
theorem waitTurn_eq (rest : List HostAction) (s : State) :
    waitTurn rest s =
      { s with
        host := if s.busy then .yield :: .wait :: rest else rest
        responsesRev := .word s.status :: s.responsesRev } := by
  simp [waitTurn, hostAccess, placeOf, placeAt, regStatus, State.readReg, regArg, regCfg0, regCfg1, State.respond]
  rfl

/-- The block's step: idle, fetching an issued command, stopping for want of a step, or the next sequencer step. -/
theorem blockStep_cases (s : State) :
    (s.busy = false ∧ blockStep s = .next s) ∨
    (s.busy = true ∧ s.pending = true ∧ blockStep s = runCommand s) ∨
    (s.busy = true ∧ s.pending = false ∧ s.todo = [] ∧ blockStep s = .fault .sequencerEmpty) ∨
    ∃ op rest, s.busy = true ∧ s.pending = false ∧ s.todo = op :: rest
      ∧ blockStep s = runOp op rest (s.plan rest) := by
  unfold blockStep
  cases hb : s.busy
  · simp
  · cases hp : s.pending
    · cases ht : s.todo with
      | nil => simp
      | cons op rest => simp
    · simp

/-- Running an issued command: the decoded instruction, or completion with ILLEGAL_COMMAND. -/
theorem runCommand_cases (s : State) :
    (∃ i, decodeWord s.command = .ok i ∧ runCommand s = exec i { s with pending := false }) ∨
      ∃ e, decodeWord s.command = .error e ∧
        runCommand s = .next (({ s with pending := false } : State).raise .illegalCommand) := by
  unfold runCommand
  cases h : decodeWord s.command with
  | ok i => exact .inl ⟨i, rfl, rfl⟩
  | error e => exact .inr ⟨e, rfl, rfl⟩

theorem withConfig_some {s : State} {c : DriverConfig} (h : s.cfg = some c) (f : DriverConfig → Result) :
    withConfig s f = f c := by simp [withConfig, h]

/-- One more step at the front of a run, for any machine. -/
theorem core_run_next (M : Host.Core) {s t : M.State} (h : M.step s = .next t) (k : Nat) :
    M.run (k + 1) s = M.run k t := by
  rw [Host.Core.run, h]

/-- A run that answers a next state answered one at its first step. -/
theorem core_run_succ_next (M : Host.Core) {s t : M.State} {k : Nat} (h : M.run (k + 1) s = .next t) :
    ∃ u, M.step s = .next u ∧ M.run k u = .next t := by
  rw [Host.Core.run] at h
  cases hs : M.step s with
  | next u => rw [hs] at h; exact ⟨u, rfl, h⟩
  | fault r => rw [hs] at h; cases h
  | refused r => rw [hs] at h; cases h

/-- Runs compose, for any machine. -/
theorem core_run_add (M : Host.Core) {s t : M.State} {j : Nat} (h : M.run j s = .next t) (k : Nat) :
    M.run (j + k) s = M.run k t := by
  induction j generalizing s with
  | zero => rw [Host.Core.run] at h; cases h; rw [Nat.zero_add]
  | succ j ih =>
    obtain ⟨u, hs, hr⟩ := core_run_succ_next M h
    rw [Nat.succ_add, core_run_next M hs]
    exact ih hr

theorem run_zero (s : State) : run 0 s = .next s := rfl

/-- One more step at the front of a run. -/
theorem run_succ_of_next {s t : State} (h : step s = .next t) (k : Nat) : run (k + 1) s = run k t :=
  core_run_next Sys2Proof.core h k

/-- Runs compose. -/
theorem run_add {s t : State} {j : Nat} (h : run j s = .next t) (k : Nat) : run (j + k) s = run k t :=
  core_run_add Sys2Proof.core h k

end Sys2Proof.Machine
end

