-- ==== Sys2Proof/Laws/PerInstr.lean ====
section
/-! SUPPORT. The families of per-instruction statements of LAWS.json. -/

namespace Sys2Proof.Laws

/-- How many bytes a well-formed COG frame sends (30_encoding.md R98, R99). -/
def frameLength : Instr → Nat
  | .configure | .setTimingFixed | .setTimingBudget | .setTimingTemp | .fullUpdate _ | .partialUpdate _ => 0
  | .cogIndex _ | .cogData _ | .cogRead | .cogId => 2
  | .cogBlock _ => 9
  | .cogRowSmall lead _ _ _ _ => 58 + lead.toList.length
  | .cogRowMedium lead _ _ _ => 75 + lead.toList.length
  | .cogRowLarge lead _ _ _ => 111 + lead.toList.length

/-- A well-formed instruction's code is a word for a host command, and a frame of its length for a COG frame. -/
def EncodedLength.Statement (i : Instr) : Prop :=
  i.wf = true → ∀ h : Headers, (frameBytes h i).length = frameLength i ∧ (i.isFrame = false ↔ frameBytes h i = [])

theorem EncodedLength.configure : EncodedLength.Statement .configure := fun _ _ => ⟨rfl, by simp [Instr.isFrame, frameBytes, encode]⟩
theorem EncodedLength.setTimingFixed : EncodedLength.Statement .setTimingFixed :=
  fun _ _ => ⟨rfl, by simp [Instr.isFrame, frameBytes, encode]⟩
theorem EncodedLength.setTimingBudget : EncodedLength.Statement .setTimingBudget :=
  fun _ _ => ⟨rfl, by simp [Instr.isFrame, frameBytes, encode]⟩
theorem EncodedLength.setTimingTemp : EncodedLength.Statement .setTimingTemp :=
  fun _ _ => ⟨rfl, by simp [Instr.isFrame, frameBytes, encode]⟩
theorem EncodedLength.fullUpdate (ovr : Bool) : EncodedLength.Statement (.fullUpdate ovr) :=
  fun _ _ => ⟨rfl, by simp [Instr.isFrame, frameBytes, encode]⟩
theorem EncodedLength.partialUpdate (ovr : Bool) : EncodedLength.Statement (.partialUpdate ovr) :=
  fun _ _ => ⟨rfl, by simp [Instr.isFrame, frameBytes, encode]⟩
theorem EncodedLength.cogIndex (reg : Byte) : EncodedLength.Statement (.cogIndex reg) :=
  fun _ _ => ⟨rfl, by simp [Instr.isFrame, frameBytes, encode]⟩
theorem EncodedLength.cogData (value : Byte) : EncodedLength.Statement (.cogData value) :=
  fun _ _ => ⟨rfl, by simp [Instr.isFrame, frameBytes, encode]⟩
theorem EncodedLength.cogRead : EncodedLength.Statement .cogRead :=
  fun _ _ => ⟨rfl, by simp [Instr.isFrame, frameBytes, encode]⟩
theorem EncodedLength.cogId : EncodedLength.Statement .cogId :=
  fun _ _ => ⟨rfl, by simp [Instr.isFrame, frameBytes, encode]⟩

theorem EncodedLength.cogBlock (table : List Byte) : EncodedLength.Statement (.cogBlock table) := by
  intro hw h
  have hl : table.length = 8 := by simpa [Instr.wf] using hw
  simp [frameBytes, encode, frameLength, hl, Instr.isFrame]

theorem EncodedLength.cogRowSmall (lead : Option Byte) (even scan odd : List Byte) (trail : Byte) :
    EncodedLength.Statement (.cogRowSmall lead even scan odd trail) := by
  intro hw h
  obtain ⟨⟨he, hs⟩, ho⟩ : (even.length = 16 ∧ scan.length = 24) ∧ odd.length = 16 := by
    simpa [Instr.wf, rowRunsOk, PanelSize.bytesPerLine, PanelSize.scanBytes, PanelSize.width, PanelSize.height] using hw
  refine ⟨?_, by simp [Instr.isFrame, frameBytes, encode]⟩
  simp only [frameBytes, encode, frameLength, rowBody, List.length_cons, List.length_append, List.length_reverse, he, hs, ho]
  simp only [List.length_nil]
  omega

theorem EncodedLength.cogRowMedium (lead : Option Byte) (even scan odd : List Byte) :
    EncodedLength.Statement (.cogRowMedium lead even scan odd) := by
  intro hw h
  obtain ⟨⟨he, hs⟩, ho⟩ : (even.length = 25 ∧ scan.length = 24) ∧ odd.length = 25 := by
    simpa [Instr.wf, rowRunsOk, PanelSize.bytesPerLine, PanelSize.scanBytes, PanelSize.width, PanelSize.height] using hw
  refine ⟨?_, by simp [Instr.isFrame, frameBytes, encode]⟩
  simp only [frameBytes, encode, frameLength, rowBody, List.length_cons, List.length_append, List.length_reverse, he, hs, ho]
  omega

theorem EncodedLength.cogRowLarge (lead : Option Byte) (even scan odd : List Byte) :
    EncodedLength.Statement (.cogRowLarge lead even scan odd) := by
  intro hw h
  obtain ⟨⟨he, hs⟩, ho⟩ : (even.length = 33 ∧ scan.length = 44) ∧ odd.length = 33 := by
    simpa [Instr.wf, rowRunsOk, PanelSize.bytesPerLine, PanelSize.scanBytes, PanelSize.width, PanelSize.height] using hw
  refine ⟨?_, by simp [Instr.isFrame, frameBytes, encode]⟩
  simp only [frameBytes, encode, frameLength, rowBody, List.length_cons, List.length_append, List.length_reverse, he, hs, ho]
  omega

end Sys2Proof.Laws
end

