-- ==== Sys2Proof/Tests/Slice0.lean ====
section
/-! SUPPORT. Tests: ill-formed terms refused, words written out from the encodings of the spec, one-step vectors of
95_test_vectors.md, and a witness of the hypotheses of every statement that has some. -/

namespace Sys2Proof.Tests
open Sys2Proof.Machine

/-! ### WellFormed smoke (30_encoding.md R98, R99) -/

theorem test_block_seven_bytes_refused : (Instr.cogBlock (List.replicate 7 0)).wf = false := by decide
theorem test_block_nine_bytes_refused : (Instr.cogBlock (List.replicate 9 0)).wf = false := by decide

def small (e s o : Nat) : Instr := .cogRowSmall none (List.replicate e 0) (List.replicate s 0) (List.replicate o 0) 0
def medium (e s o : Nat) : Instr := .cogRowMedium none (List.replicate e 0) (List.replicate s 0) (List.replicate o 0)
def large (e s o : Nat) : Instr := .cogRowLarge none (List.replicate e 0) (List.replicate s 0) (List.replicate o 0)

theorem test_small_even_refused : (small 15 24 16).wf = false := by decide
theorem test_small_scan_refused : (small 16 23 16).wf = false := by decide
theorem test_small_odd_refused : (small 16 24 17).wf = false := by decide
theorem test_medium_even_refused : (medium 24 24 25).wf = false := by decide
theorem test_medium_scan_refused : (medium 25 44 25).wf = false := by decide
theorem test_medium_odd_refused : (medium 25 24 16).wf = false := by decide
theorem test_large_even_refused : (large 32 44 33).wf = false := by decide
theorem test_large_scan_refused : (large 33 24 33).wf = false := by decide
theorem test_large_odd_refused : (large 33 44 34).wf = false := by decide
theorem test_rows_accepted : (small 16 24 16).wf = true ∧ (medium 25 24 25).wf = true ∧ (large 33 44 33).wf = true := by
  decide

/-! ### Decoding words written out from 30_encoding.md R90, R91, R98, R99 -/

/-- OPCODE, RSV1, OVR, RSV0 of R90, written field by field. -/
def cmdWord (opcode : BitVec 8) (rsv1 : BitVec 7) (ovr : BitVec 1) (rsv0 : BitVec 16) : Nat :=
  (opcode ++ rsv1 ++ ovr ++ rsv0).toNat

theorem test_decode_configure : decodeTableWord 32 (cmdWord 1 0 0 0) = some .configure := by decide
theorem test_decode_timing_fixed : decodeTableWord 32 (cmdWord 2 0 0 0) = some .setTimingFixed := by decide
theorem test_decode_timing_budget : decodeTableWord 32 (cmdWord 3 0 0 0) = some .setTimingBudget := by decide
theorem test_decode_timing_temp : decodeTableWord 32 (cmdWord 4 0 0 0) = some .setTimingTemp := by decide
theorem test_decode_full : decodeTableWord 32 (cmdWord 5 0 0 0) = some (.fullUpdate false) := by decide
theorem test_decode_full_ovr : decodeTableWord 32 (cmdWord 5 0 1 0) = some (.fullUpdate true) := by decide
theorem test_decode_partial : decodeTableWord 32 (cmdWord 6 0 0 0) = some (.partialUpdate false) := by decide
theorem test_decode_partial_ovr : decodeTableWord 32 (cmdWord 6 0 1 0) = some (.partialUpdate true) := by decide
theorem test_decode_index : decodeTableWord 16 0b0111000000001010 = some (.cogIndex 0x0A) := by decide
theorem test_decode_data : decodeTableWord 16 0b0111001011000010 = some (.cogData 0xC2) := by decide
theorem test_decode_read : decodeTableWord 16 0b0111001100000000 = some .cogRead := by decide
theorem test_decode_id : decodeTableWord 16 0b0111000100000000 = some .cogId := by decide
theorem test_decode_block : decodeTableWord 72 0x720000007FFFFE0001
    = some (.cogBlock [0x00, 0x00, 0x00, 0x7F, 0xFF, 0xFE, 0x00, 0x01]) := by decide

/-- A SMALL row: `E[15]` to `E[0]` are 0F down to 00, S[0] is C0, `O[0]` to `O[15]` are 10 up to 1F, border A5. -/
theorem test_decode_row_small :
    decodeFrame Headers.reference
      ([0x72, 0x0F, 0x0E, 0x0D, 0x0C, 0x0B, 0x0A, 0x09, 0x08, 0x07, 0x06, 0x05, 0x04, 0x03, 0x02, 0x01, 0x00, 0xC0]
        ++ List.replicate 23 0
        ++ [0x10, 0x11, 0x12, 0x13, 0x14, 0x15, 0x16, 0x17, 0x18, 0x19, 0x1A, 0x1B, 0x1C, 0x1D, 0x1E, 0x1F, 0xA5])
      = .ok (.cogRowSmall none
        [0x00, 0x01, 0x02, 0x03, 0x04, 0x05, 0x06, 0x07, 0x08, 0x09, 0x0A, 0x0B, 0x0C, 0x0D, 0x0E, 0x0F]
        (0xC0 :: List.replicate 23 0)
        [0x10, 0x11, 0x12, 0x13, 0x14, 0x15, 0x16, 0x17, 0x18, 0x19, 0x1A, 0x1B, 0x1C, 0x1D, 0x1E, 0x1F] 0xA5) := by
  decide

/-- A MEDIUM row: leading border A5, `E[24]` is 11 and `E[0]` is 22, S[23] is 03, `O[0]` is 33 and `O[24]` is 44. -/
theorem test_decode_row_medium :
    decodeFrame Headers.reference
      ([0x72, 0xA5, 0x11] ++ List.replicate 23 0 ++ [0x22] ++ List.replicate 23 0 ++ [0x03, 0x33] ++ List.replicate 23 0
        ++ [0x44])
      = .ok (.cogRowMedium (some 0xA5) (0x22 :: (List.replicate 23 0 ++ [0x11])) (List.replicate 23 0 ++ [0x03])
        (0x33 :: (List.replicate 23 0 ++ [0x44]))) := by decide

/-- A LARGE row: leading border A5, `E[32]` is 11 and `E[0]` is 22, S[0] is 03, `O[0]` is 33 and `O[32]` is 44. -/
theorem test_decode_row_large :
    decodeFrame Headers.reference
      ([0x72, 0xA5, 0x11] ++ List.replicate 31 0 ++ [0x22, 0x03] ++ List.replicate 43 0 ++ [0x33] ++ List.replicate 31 0
        ++ [0x44])
      = .ok (.cogRowLarge (some 0xA5) (0x22 :: (List.replicate 31 0 ++ [0x11])) (0x03 :: List.replicate 43 0)
        (0x33 :: (List.replicate 31 0 ++ [0x44]))) := by decide

/-- R94: opcode 0x00, 0x07 and 0xFF, a bit of each reserved field, OVR on a command that takes none. -/
theorem test_illegal_words :
    (decodeWord 0x00000000).toOption = none ∧ (decodeWord 0x07000000).toOption = none
    ∧ (decodeWord 0xFF000000).toOption = none ∧ (decodeWord 0x05020000).toOption = none
    ∧ (decodeWord 0x05000001).toOption = none ∧ (decodeWord 0x01010000).toOption = none
    ∧ (decodeWord 0x04010000).toOption = none := by decide

/-! ### Vectors of 41_pixel_mapper.md, 45_timing_policy.md and 95_test_vectors.md -/

/-- Vector 2.2, d = 0x96: four stages, even and odd. -/
theorem test_mapper_96 :
    mapEven .low 0x96 3 2 = 0xEB ∧ mapOdd .low 0x96 3 2 = 0xBE ∧ mapEven .low 0x96 2 0 = 0x82
    ∧ mapOdd .low 0x96 2 0 = 0x28 ∧ mapEven .low 0x96 3 0 = 0xC3 ∧ mapOdd .low 0x96 3 0 = 0x3C
    ∧ mapEven .low 0x96 2 3 = 0xBE ∧ mapOdd .low 0x96 2 3 = 0xEB := by decide

/-- The examples of R164 and R165. -/
theorem test_mapper_0f : mapEven .low 0x0F 2 3 = 0xAF ∧ mapOdd .low 0x0F 2 3 = 0xFA := by decide

/-- W8: old 0x00 and new 0xFF; old 0xAA and new 0x55. -/
theorem test_partial_pairs :
    partialEven 0x00 0xFF = 0xFF ∧ partialOdd 0x00 0xFF = 0xFF ∧ partialEven 0xAA 0x55 = 0xFF
    ∧ partialOdd 0xAA 0x55 = 0xAA := by decide

/-- R172's example: MEDIUM rows 0 and 5. -/
theorem test_scan_medium :
    scanByte ScanPlacement.reference .medium 0 23 = 0x03 ∧ scanByte ScanPlacement.reference .medium 0 22 = 0x00
    ∧ scanByte ScanPlacement.reference .medium 5 22 = 0x0C := by decide

/-- W4 and the band edges of R305. -/
theorem test_temperatures :
    tempBudget (-12) = 10710 ∧ tempBudget (-10) = 10710 ∧ tempBudget (-9) = 7560 ∧ tempBudget 5 = 5040
    ∧ tempBudget 6 = 2520 ∧ tempBudget 15 = 1890 ∧ tempBudget 20 = 1260 ∧ tempBudget 40 = 630
    ∧ tempBudget 41 = 441 := by decide

/-! ### One step of each instruction -/

/-- An issued command word with its captured operands. -/
def issuedWith (w arg cfg0 cfg1 : Word32) : State :=
  { State.reset with
    busy := true, pending := true, command := w, captured := { arg := arg, cfg0 := cfg0, cfg1 := cfg1 } }

/-- What a step gives, read through `f`. -/
def after {α : Type} (r : Result) (f : State → α) : Option α :=
  match r with
  | .next t => some (f t)
  | .fault _ => none
  | .refused _ => none

/-- R332's example. -/
theorem test_configure :
    after (step (issuedWith 0x01000000 0 0x03020100 0x0001FF04)) (fun t => (t.cfg, t.todo))
      = some (some frameConfig, [.complete .ok]) := by decide

/-- W6, and SIZE = 3 (R331). -/
theorem test_configure_rejects :
    after (step (issuedWith 0x01000000 0 0xFFFFFFFF 0x0001FF04)) (fun t => (t.cfg, t.todo))
        = some (none, [.complete .invalidPinConfig])
      ∧ after (step (issuedWith 0x01000000 0 0x03020100 0x0003FF04)) (fun t => t.todo)
        = some [.complete .invalidPinConfig] := by decide

theorem test_timing_fixed :
    after (step (issuedWith 0x02000000 5 0 0)) (fun t => (t.budget, t.todo)) = some (.fixed 5, [.complete .ok])
    ∧ after (step (issuedWith 0x02000000 0xFFFFFFFF 0 0)) (fun t => (t.budget, t.todo))
      = some (.unset, [.complete .invalidArgument]) := by decide

theorem test_timing_budget :
    after (step (issuedWith 0x03000000 1000 0 0)) (fun t => (t.budget, t.todo))
      = some (.timeMs 1000, [.complete .ok])
    ∧ after (step (issuedWith 0x03000000 0 0 0)) (fun t => (t.budget, t.todo))
      = some (.unset, [.complete .invalidArgument]) := by decide

/-- W4. -/
theorem test_timing_temp :
    after (step (issuedWith 0x04000000 0xFFFFFFF4 0 0)) (fun t => (t.budget, t.timing))
      = some (.timeMs 10710, 0x000029D6) := by decide

theorem test_full_update :
    after (step (issuedWith 0x05010000 0 0 0)) (fun t => (t.fsm, t.kind, t.ovr))
      = some (.validating, .full, true) := by decide

theorem test_partial_update :
    after (step (issuedWith 0x06000000 0 0 0)) (fun t => (t.fsm, t.kind, t.ovr))
      = some (.validating, .partialPass, false) := by decide

/-- Configured as R332's example, with the peer's next bytes. -/
def withPeer (bytes : List Byte) : State :=
  { State.reset with cfg := some frameConfig, peer := { Peer.initial with bytes := bytes } }

/-- R137's example. -/
theorem test_cog_index :
    after (exec (.cogIndex 0x0A) (withPeer [1, 2])) State.log
      = some [.set 0 false, .xchg 0x70 1, .xchg 0x0A 2, .set 0 true] := by decide

theorem test_cog_data :
    after (exec (.cogData 0xD1) (withPeer [1, 2])) State.log
      = some [.set 0 false, .xchg 0x72 1, .xchg 0xD1 2, .set 0 true] := by decide

/-- R138's example: the second byte is the status byte. -/
theorem test_cog_read :
    after (exec .cogRead (withPeer [0x11, 0xC0])) (fun t => (t.log, t.work.statusByte, t.work.chipId))
      = some ([.set 0 false, .xchg 0x73 0x11, .xchg 0x00 0xC0, .set 0 true], 0xC0, 0) := by decide

theorem test_cog_id :
    after (exec .cogId (withPeer [0x11, 0x12])) (fun t => (t.log, t.work.chipId, t.work.statusByte))
      = some ([.set 0 false, .xchg 0x71 0x11, .xchg 0x00 0x12, .set 0 true], 0x12, 0) := by decide

theorem test_cog_block :
    after (exec (.cogBlock [0, 0, 0, 0, 1, 0xFF, 0xE0, 0]) (withPeer (List.replicate 9 7))) State.outLog
      = some [.set 0 false, .sent 0x72, .sent 0, .sent 0, .sent 0, .sent 0, .sent 1, .sent 0xFF, .sent 0xE0, .sent 0,
        .set 0 true] := by decide

/-- R257: a SMALL row frame has 58 exchanges, and so 60 events. -/
theorem test_cog_row_small :
    after (exec (small 16 24 16) (withPeer (List.replicate 58 7))) (fun t => t.log.length) = some 60 := by decide

/-- A MEDIUM row frame with its leading border has 76 exchanges. -/
theorem test_cog_row_medium :
    after (exec (.cogRowMedium (some 0) (List.replicate 25 0) (List.replicate 24 0) (List.replicate 25 0))
      (withPeer (List.replicate 76 7))) (fun t => t.log.length) = some 78 := by decide

/-- A LARGE row frame with its leading border has 112 exchanges. -/
theorem test_cog_row_large :
    after (exec (.cogRowLarge (some 0) (List.replicate 33 0) (List.replicate 44 0) (List.replicate 33 0))
      (withPeer (List.replicate 112 7))) (fun t => t.log.length) = some 114 := by decide

/-! ### Host accesses: vector 1.3 -/

/-- The machine after reset, with one access to make. -/
def accessing (x : Access) : State := { State.reset with host := [.access .first x] }

theorem test_reset_reads :
    after (step (accessing (.read32 0x10))) State.responses = some [.word 0]
    ∧ after (step (accessing (.read32 0x08))) State.responses = some [.word 0xFFFFFFFF]
    ∧ after (step (accessing (.read32 0x0C))) State.responses = some [.word 0x0000FFFF]
    ∧ after (step (accessing (.read32 0x1C))) State.responses = some [.word 0] := by decide

theorem test_cfg1_top_bits_dropped :
    after (step (accessing (.write32 0x0C 0xFFFFFFFF))) (fun t => t.staging.cfg1) = some 0x0003FFFF := by decide

theorem test_bus_errors :
    after (step (accessing (.read32 0x02))) State.responses = some [.busError]
    ∧ after (step (accessing (.read32 0x20))) State.responses = some [.busError]
    ∧ after (step (accessing (.read8 0x10))) State.responses = some [.busError]
    ∧ after (step (accessing (.write8 0x116B0 1))) State.responses = some [.busError]
    ∧ after (step (accessing (.write8 0x30000 0))) State.responses = some [.busError]
    ∧ after (step (accessing (.read32 0x10000))) State.responses = some [.busError] := by decide

theorem test_read_faults :
    after (step (accessing (.read8 0x30000))) (fun t => t.readFault) = some (some (.emptyPrev 0x30000))
    ∧ after (step (accessing (.read8 0x10000))) (fun t => t.readFault) = some (some (.hostRead 0x10000)) := by decide

/-- R96 and R97: a turn of `wait` answers STATUS, and while it reads BUSY = 1 the block steps and it reads again; `result`
takes DcFail's 5 from bits 15:12. -/
theorem test_wait_and_result :
    after (step { State.reset with host := [.wait], busy := true }) (fun t => (t.responses, t.host))
        = some ([.word 0x10], [.yield, .wait])
    ∧ after (step { State.reset with host := [.wait] }) (fun t => (t.responses, t.host)) = some ([.word 0], [])
    ∧ after (step { State.reset with host := resultProgram Params.reference, lastResult := .dcFail }) State.resultTaken
        = some (some 5) := by decide

/-- R23: the last count the 31 bits of `sweep` hold. -/
theorem test_sweep_width :
    (State.countSweep { State.reset with work := { Work.initial with sweep := 2147483646 } }).work.sweep = 2147483647 := by
  decide

/-- STATUS of an updating MEDIUM block after a DcFail: READY 6, BUSY, CONFIGURED, PREV_VALID, Fixed 1, result 5, size 1,
field by field from 10_state.md R31. -/
theorem test_status :
    State.status { State.reset with
      fsm := .ready, busy := true, cfg := some frameConfig, prevValid := true, budget := .fixed 1, lastResult := .dcFail }
      = 0b00000000000000_01_0101_000_01_1_1_1_0110 := by decide

/-! ### The parameters -/

/-- The reference parameters meet the requirements of R172 and R140. -/
theorem test_reference_parameters : Params.reference.wf = true := by decide +kernel

/-! ### Witnesses: a concrete state that meets the hypotheses of each statement, clause by clause -/

/-- Configured, the budget fixed at one sweep, the override used, a command running with these steps left in READY. -/
def running (ops : List Op) : State :=
  { State.reset with
    cfg := some frameConfig, budget := .fixed 1, ovr := true, busy := true, fsm := .ready, session := true, todo := ops }

/-- A LARGE configuration. -/
def largeConfig : DriverConfig := { frameConfig with size := .large, border := some 5 }

theorem witness_DecodeOfEncode :
    Headers.reference.wf = true ∧ (large 33 44 33).wf = true ∧ (small 16 24 16).wf = true := by decide

theorem witness_EncodeOfDecode :
    decodeWord 0x05010000 = .ok (.fullUpdate true)
    ∧ decodeFrame Headers.reference [0x72, 0xD1] = .ok (.cogData 0xD1) := by decide

theorem witness_CommandWordsByMaskAndMatch : decodeWord 0x06010000 = .ok (.partialUpdate true) := by decide

/-- One word for each way of being illegal, at its boundary: opcode 0, opcode 7, a reserved bit, OVR on opcodes 1 and 4. -/
theorem witness_IllegalWordEnds :
    (issuedWith 0 0 0 0).issued 0 ∧ (0 : Word32).toNat / 2 ^ 24 = 0
    ∧ (issuedWith 0x07000000 0 0 0).issued 0x07000000 ∧ 7 ≤ (0x07000000 : Word32).toNat / 2 ^ 24
    ∧ (issuedWith 0x05000001 0 0 0).issued 0x05000001 ∧ (0x05000001 : Word32) &&& 0x00FEFFFF ≠ 0
    ∧ (issuedWith 0x01010000 0 0 0).issued 0x01010000
    ∧ ((0x01010000 : Word32).getLsbD 16 = true ∧ 1 ≤ (0x01010000 : Word32).toNat / 2 ^ 24
      ∧ (0x01010000 : Word32).toNat / 2 ^ 24 ≤ 4)
    ∧ (issuedWith 0x04010000 0 0 0).issued 0x04010000
    ∧ ((0x04010000 : Word32).getLsbD 16 = true ∧ 1 ≤ (0x04010000 : Word32).toNat / 2 ^ 24
      ∧ (0x04010000 : Word32).toNat / 2 ^ 24 ≤ 4) := by
  unfold State.issued; decide

/-- Both clauses, each with each of its two host lists. -/
theorem witness_StepRunsTheInstruction :
    ((issuedWith 0x05000000 0 0 0).busy = true ∧ (issuedWith 0x05000000 0 0 0).pending = true
      ∧ decodeWord (issuedWith 0x05000000 0 0 0).command = .ok (.fullUpdate false)
      ∧ (issuedWith 0x05000000 0 0 0).host = []
      ∧ State.host { issuedWith 0x05000000 0 0 0 with host := [.yield] } = .yield :: [])
    ∧ ((running [.send .cogId]).busy = true ∧ (running [.send .cogId]).pending = false
      ∧ (running [.send .cogId]).todo = .send .cogId :: []
      ∧ (running [.send .cogId]).host = []
      ∧ State.host { running [.send .cogId] with host := [.yield] } = .yield :: []) := by decide

theorem witness_WithFetchWordRuns :
    decodeWord 0x02000000 = .ok .setTimingFixed
    ∧ tableCode 16 0x7300 = .frame [0x73, 0x00]
    ∧ decodeFrame Headers.reference [0x73, 0x00] = .ok .cogRead := by decide

/-- The first agent idle and busy, the second agent idle and busy. -/
theorem witness_CommandWriteIssues :
    (accessing (.write32 0 0x05000000)).host
        = .access .first (.write32 (accessing (.write32 0 0x05000000)).params.blockBase 0x05000000) :: []
      ∧ (accessing (.write32 0 0x05000000)).busy = false
      ∧ State.busy { accessing (.write32 0 0x05000000) with busy := true } = true
      ∧ State.host { State.reset with host := [.access .second (.write32 0 7)] }
        = .access .second (.write32 State.reset.params.blockBase 7) :: []
      ∧ State.busy { State.reset with host := [.access .second (.write32 0 7)] } = false
      ∧ State.busy { State.reset with host := [.access .second (.write32 0 7)], busy := true } = true := by decide

/-- ARG at 1 and at its greatest value; at 0 and at -1. -/
theorem witness_SetTimingFixedResult :
    (0 < (issuedWith 0x02000000 1 0 0).captured.arg.toInt ∧ (issuedWith 0x02000000 1 0 0).issued 0x02000000)
    ∧ 0 < (issuedWith 0x02000000 0x7FFFFFFF 0 0).captured.arg.toInt
    ∧ ((issuedWith 0x02000000 0 0 0).captured.arg.toInt ≤ 0 ∧ (issuedWith 0x02000000 0 0 0).issued 0x02000000)
    ∧ (issuedWith 0x02000000 0xFFFFFFFF 0 0).captured.arg.toInt ≤ 0 := by
  unfold State.issued; decide

theorem witness_SetTimingBudgetResult :
    (0 < (issuedWith 0x03000000 1 0 0).captured.arg.toInt ∧ (issuedWith 0x03000000 1 0 0).issued 0x03000000)
    ∧ 0 < (issuedWith 0x03000000 0x7FFFFFFF 0 0).captured.arg.toInt
    ∧ ((issuedWith 0x03000000 0 0 0).captured.arg.toInt ≤ 0 ∧ (issuedWith 0x03000000 0 0 0).issued 0x03000000)
    ∧ (issuedWith 0x03000000 0x80000000 0 0).captured.arg.toInt ≤ 0 := by
  unfold State.issued; decide

theorem witness_SetTimingTempResult : (issuedWith 0x04000000 0x80000000 0 0).issued 0x04000000 := by
  unfold State.issued; decide

/-- Both edges of every band, where the clauses meet. -/
theorem witness_TemperatureTable :
    ((-10 : Int) ≤ -10) ∧ (-10 < (-9 : Int) ∧ (-9 : Int) ≤ -5) ∧ (-10 < (-5 : Int) ∧ (-5 : Int) ≤ -5)
    ∧ (-5 < (-4 : Int) ∧ (-4 : Int) ≤ 5) ∧ (-5 < (5 : Int) ∧ (5 : Int) ≤ 5) ∧ (5 < (6 : Int) ∧ (6 : Int) ≤ 10)
    ∧ (5 < (10 : Int) ∧ (10 : Int) ≤ 10) ∧ (10 < (11 : Int) ∧ (11 : Int) ≤ 15) ∧ (10 < (15 : Int) ∧ (15 : Int) ≤ 15)
    ∧ (15 < (16 : Int) ∧ (16 : Int) ≤ 20) ∧ (15 < (20 : Int) ∧ (20 : Int) ≤ 20) ∧ (20 < (21 : Int) ∧ (21 : Int) ≤ 40)
    ∧ (20 < (40 : Int) ∧ (40 : Int) ≤ 40) ∧ (40 < (41 : Int)) := by decide

/-- A staging that configures, with the highest valid pin; one that does not, with the lowest invalid pin; and a block
already configured. -/
theorem witness_ConfigureResult :
    ((issuedWith 0x01000000 0 0x0302011F 0x0001FF04).cfg = none
      ∧ (issuedWith 0x01000000 0 0x0302011F 0x0001FF04).captured.config State.reset.params
        = some { frameConfig with cs := 31 }
      ∧ (issuedWith 0x01000000 0 0x0302011F 0x0001FF04).issued 0x01000000)
    ∧ ((issuedWith 0x01000000 0 0x03020120 0x0001FF04).cfg = none
      ∧ (issuedWith 0x01000000 0 0x03020120 0x0001FF04).captured.config State.reset.params = none
      ∧ (issuedWith 0x01000000 0 0x03020120 0x0001FF04).issued 0x01000000)
    ∧ (State.cfg { issuedWith 0x01000000 0 0x03020100 0x0001FF04 with cfg := some frameConfig }).isSome = true
    ∧ State.issued { issuedWith 0x01000000 0 0x03020100 0x0001FF04 with cfg := some frameConfig } 0x01000000 := by
  unfold State.issued; decide

theorem witness_StagedConfigurationAccepted :
    Staging.config Params.reference { arg := 0, cfg0 := 0x03020100, cfg1 := 0x00020504 } = some largeConfig
    ∧ Staging.config Params.reference { arg := 0, cfg0 := 0x03020100, cfg1 := 0x0002FF04 } = none := by decide

theorem witness_ConfigurationImmutable :
    ∃ t, step (running [.delay 5, .complete .ok]) = .next t
      ∧ (running [.delay 5, .complete .ok]).cfg = some frameConfig := ⟨_, rfl, rfl⟩

/-- VALIDATING with no configuration; with no previous frame; with no budget; with all three. -/
def validating (k : Nat) : State :=
  match k with
  | 0 => { running [.validate] with cfg := none }
  | 1 => { running [.validate] with ovr := false }
  | 2 => { running [.validate] with budget := .unset }
  | _ => running [.validate]

theorem witness_ValidationChecks :
    ((validating 0).blockRuns ∧ (validating 0).todo = [.validate] ∧ (validating 0).cfg = none)
    ∧ ((validating 1).blockRuns ∧ (validating 1).todo = [.validate] ∧ (validating 1).cfg = some frameConfig
      ∧ (validating 1).prevSource = none)
    ∧ ((validating 2).blockRuns ∧ (validating 2).todo = [.validate] ∧ (validating 2).cfg = some frameConfig
      ∧ (validating 2).prevSource ≠ none ∧ (validating 2).budget = .unset)
    ∧ ((validating 3).blockRuns ∧ (validating 3).todo = [.validate] ∧ (validating 3).cfg = some frameConfig
      ∧ (validating 3).prevSource ≠ none ∧ (validating 3).budget ≠ .unset) := by
  unfold State.blockRuns; decide

/-- The override; the stored frame; nothing under ASSUME_WHITE; nothing under REJECT; nothing in a partial update. -/
def choosing (k : Nat) : State :=
  match k with
  | 0 => running []
  | 1 => { running [] with ovr := false, prevValid := true }
  | 2 => { State.reset with params := { Params.reference with noPrevPolicy := .assumeWhite } }
  | 3 => State.reset
  | _ => { State.reset with kind := .partialPass }

theorem witness_PreviousFrameChoice :
    (choosing 0).ovr = true
    ∧ ((choosing 1).ovr = false ∧ (choosing 1).prevValid = true)
    ∧ ((choosing 2).ovr = false ∧ (choosing 2).prevValid = false ∧ (choosing 2).kind = .full
      ∧ (choosing 2).params.noPrevPolicy = .assumeWhite)
    ∧ ((choosing 3).ovr = false ∧ (choosing 3).prevValid = false ∧ (choosing 3).kind = .full
      ∧ (choosing 3).params.noPrevPolicy = .reject)
    ∧ ((choosing 4).ovr = false ∧ (choosing 4).prevValid = false ∧ (choosing 4).kind = .partialPass) := by decide

/-- The 61 bytes a peer returns in a good power-up, and an inactive busy pin. -/
def goodPeer : Peer :=
  { Peer.initial with
    bytes := [0, 0x12] ++ List.replicate 7 0 ++ [0xC0] ++ List.replicate 50 0 ++ [0xC0]
    levels := [false] }

/-- A full update that starts with a good peer and the override. -/
def readyFull : State := { running [] with peer := goodPeer }

theorem readyFull_goodPowerUp : readyFull.GoodPowerUp 0 0 := by constructor <;> decide

/-- A peer that shows the busy pin active once, fails three charge attempts, and lets 10 ms go by over two sweeps of each
stage. -/
def slowPeer : Peer :=
  { Peer.initial with
    bytes := [0, 0x12] ++ List.replicate 7 0 ++ [0xC0] ++ List.replicate 98 0 ++ [0xC0]
    levels := [true, false]
    ticks := [5, 9, 1, 0, 4, 6, 7, 0, 10, 3, 2, 9] }

/-- A full update under a time budget that starts with the slow peer and the override. -/
def readySlow (mode : TimedStageMode) : State :=
  { running [] with
    budget := .timeMs 10, peer := slowPeer, params := { Params.reference with timedStageMode := mode } }

theorem readySlow_goodPowerUp (mode : TimedStageMode) : (readySlow mode).GoodPowerUp 1 3 := by
  cases mode <;> constructor <;> decide

/-- Each stage one sweep, by the budget. -/
theorem witness_FullUpdateCompletes :
    readyFull.blockRuns ∧ readyFull.cfg = some frameConfig
    ∧ State.prevSource { readyFull with kind := .full, ovr := true } = some (.buffer ovrBase)
    ∧ readyFull.GoodPowerUp 0 0 ∧ (readyFull.params.chanSel.get frameConfig.size).length = 8
    ∧ (∀ stage < 4, readyFull.clocksOf .full stage 1 = 0)
    ∧ ∀ stage < 4, readyFull.makesSweeps .full stage 1 0 1 := by
  refine ⟨⟨rfl, rfl, rfl⟩, rfl, rfl, readyFull_goodPowerUp, rfl, by decide, fun stage _ => ?_⟩
  exact ⟨by decide, by decide, .inl rfl⟩

/-- Each stage two sweeps, by the clock, read three times a stage. -/
theorem witness_FullUpdateCompletes_perStage :
    let s := readySlow .perStage
    s.blockRuns ∧ s.cfg = some frameConfig
    ∧ State.prevSource { s with kind := .full, ovr := true } = some (.buffer ovrBase)
    ∧ s.GoodPowerUp 1 3 ∧ (s.params.chanSel.get frameConfig.size).length = 8
    ∧ (s.clocksOf .full 0 2 = 3 ∧ s.clocksOf .full 1 2 = 3 ∧ s.clocksOf .full 2 2 = 3)
    ∧ s.makesSweeps .full 0 2 0 2 ∧ s.makesSweeps .full 1 2 3 2 ∧ s.makesSweeps .full 2 2 6 2
    ∧ s.makesSweeps .full 3 2 9 2 := by
  refine ⟨⟨rfl, rfl, rfl⟩, rfl, rfl, readySlow_goodPowerUp _, rfl, by decide, ?_, ?_, ?_, ?_⟩ <;>
  exact ⟨by decide, fun j h1 h2 => by obtain rfl : j = 1 := by omega
                                      decide, by decide⟩

/-- Stage 0 two sweeps, by the clock, and each later stage the same number. -/
theorem witness_FullUpdateCompletes_countFromFirst :
    let s := readySlow .countFromFirst
    s.blockRuns ∧ s.GoodPowerUp 1 3
    ∧ (s.clocksOf .full 0 2 = 3 ∧ s.clocksOf .full 1 2 = 0 ∧ s.clocksOf .full 2 2 = 0)
    ∧ s.makesSweeps .full 0 2 0 2 ∧ s.makesSweeps .full 1 2 3 2 ∧ s.makesSweeps .full 2 2 3 2
    ∧ s.makesSweeps .full 3 2 3 2 := by
  refine ⟨⟨rfl, rfl, rfl⟩, readySlow_goodPowerUp _, by decide, ?_, ?_, ?_, ?_⟩
  · exact ⟨by decide, fun j h1 h2 => by obtain rfl : j = 1 := by omega
                                        decide, by decide⟩
  all_goals exact ⟨by decide, by decide, .inr ⟨⟨10, rfl⟩, rfl⟩⟩

/-- A partial update that starts with a good peer and a stored previous frame. -/
def readyPartial : State := { running [] with peer := goodPeer, prevValid := true }

/-- One sweep by the budget; and, under a time budget with a slow peer, two by the clock. -/
theorem witness_PartialUpdateCompletes :
    (readyPartial.blockRuns ∧ readyPartial.cfg = some frameConfig
      ∧ State.prevSource { readyPartial with kind := .partialPass, ovr := false } = some (.buffer prevBase)
      ∧ readyPartial.GoodPowerUp 0 0 ∧ (readyPartial.params.chanSel.get frameConfig.size).length = 8
      ∧ readyPartial.makesSweeps .partialPass 0 1 0 1)
    ∧ State.prevSource { readySlow .perStage with kind := .partialPass, ovr := true } = some (.buffer ovrBase)
    ∧ (readySlow .perStage).makesSweeps .partialPass 0 2 0 2 := by
  refine ⟨⟨⟨rfl, rfl, rfl⟩, rfl, rfl, by constructor <;> decide, rfl, ⟨by decide, by decide, .inl rfl⟩⟩, rfl, ?_⟩
  exact ⟨by decide, fun j h1 h2 => by obtain rfl : j = 1 := by omega
                                      decide, by decide⟩

/-- The chip-id check, with this id read. -/
def checkingId (b : Byte) : State := { running [.checkId] with work := { Work.initial with chipId := b } }

/-- The panel check, with this status byte read. -/
def checkingPanel (b : Byte) : State := { running [.checkPanel] with work := { Work.initial with statusByte := b } }

/-- A chip id accepted, 0x12, and one refused, 0x11; a status byte with the panel bit and one with all the others. -/
theorem witness_PowerUpChecks :
    ((checkingId 0x12).blockRuns ∧ (checkingId 0x12).cfg = some frameConfig ∧ (checkingId 0x12).todo = .checkId :: []
      ∧ (checkingId 0x12).work.chipId = 0x12)
    ∧ ((checkingId 0x11).blockRuns ∧ (checkingId 0x11).cfg = some frameConfig ∧ (checkingId 0x11).todo = .checkId :: []
      ∧ (checkingId 0x11).work.chipId ≠ 0x12)
    ∧ ((checkingPanel 0x80).blockRuns ∧ (checkingPanel 0x80).cfg = some frameConfig
      ∧ (checkingPanel 0x80).todo = .checkPanel :: []
      ∧ (checkingPanel 0x80).work.statusByte &&& (checkingPanel 0x80).params.values.maskPanelOk ≠ 0)
    ∧ ((checkingPanel 0x7F).blockRuns ∧ (checkingPanel 0x7F).cfg = some frameConfig
      ∧ (checkingPanel 0x7F).todo = .checkPanel :: []
      ∧ (checkingPanel 0x7F).work.statusByte &&& (checkingPanel 0x7F).params.values.maskPanelOk = 0) := by
  unfold State.blockRuns; decide

/-- CHARGING starts, with these bytes to come from the peer. -/
def charging (bytes : List Byte) : State :=
  { running [.chargeStart] with peer := { Peer.initial with bytes := bytes } }

/-- The status byte of attempt `j` has a bit of the DC/DC mask. -/
def dcOk (bytes : List Byte) (j : Nat) : Bool :=
  (charging bytes).peer.byteAt (attemptByte j) &&& (charging bytes).params.values.maskDcOk != 0

/-- The DC/DC check of the fourth attempt, with this status byte read. -/
def checkingDc (b : Byte) : State :=
  { running [.checkDc] with work := { Work.initial with attempt := 4, statusByte := b } }

/-- Success at the first and at the fourth attempt, no success in four, and the fourth check. -/
theorem witness_ChargingAttempts :
    ((charging []).blockRuns ∧ (charging []).cfg = some frameConfig ∧ (charging []).todo = .chargeStart :: [])
    ∧ dcOk (List.replicate 16 0x40) 0 = true
    ∧ ((∀ i < 3, dcOk (List.replicate 63 0xBF ++ [0x40]) i = false) ∧ dcOk (List.replicate 63 0xBF ++ [0x40]) 3 = true)
    ∧ (∀ i < 4, dcOk (List.replicate 64 0xBF) i = false)
    ∧ (checkingDc 0xBF).blockRuns ∧ (checkingDc 0xBF).cfg = some frameConfig
    ∧ (checkingDc 0xBF).todo = .checkDc :: [] ∧ (checkingDc 0xBF).work.attempt = 4
    ∧ (checkingDc 0xBF).work.statusByte &&& (checkingDc 0xBF).params.values.maskDcOk = 0 := by
  unfold State.blockRuns; decide

/-- VALIDATING with everything an update needs, and this peer. -/
def validatingWith (peer : Peer) : State := { running [.validate] with fsm := .validating, session := false, peer := peer }

/-- The least power-up, and one with an active poll and three failed attempts. -/
theorem witness_PowerUpStates :
    ((validatingWith goodPeer).blockRuns ∧ (validatingWith goodPeer).todo = [.validate]
      ∧ (validatingWith goodPeer).fsm = .validating ∧ (validatingWith goodPeer).cfg = some frameConfig
      ∧ (validatingWith goodPeer).prevSource ≠ none ∧ (validatingWith goodPeer).budget ≠ .unset
      ∧ ((validatingWith goodPeer).params.chanSel.get frameConfig.size).length = 8)
    ∧ (validatingWith goodPeer).GoodPowerUp 0 0 ∧ (validatingWith slowPeer).GoodPowerUp 1 3 := by
  refine ⟨?_, ?_, ?_⟩
  · unfold State.blockRuns; decide
  all_goals constructor <;> decide

/-- The power-off of a LARGE block. -/
def poweringLarge : State :=
  { running (powerOffOps Params.reference largeConfig ++ [.complete .ok]) with cfg := some largeConfig }

theorem witness_PowerOffRuns :
    poweringLarge.blockRuns ∧ poweringLarge.cfg = some largeConfig
    ∧ poweringLarge.todo = powerOffOps poweringLarge.params largeConfig ++ [.complete .ok]
    ∧ largeConfig.size = .large ∧ largeConfig.border = some 5 := ⟨⟨rfl, rfl, rfl⟩, rfl, rfl, rfl, rfl⟩

/-- The busy wait, with these levels to come from the peer. -/
def polling (levels : List Level) : State :=
  { running [.busyPoll] with peer := { Peer.initial with levels := levels } }

theorem witness_BusyWaitUnbounded :
    ((polling [true, true, false]).blockRuns ∧ (polling [true, true, false]).cfg = some frameConfig
      ∧ (polling [true, true, false]).todo = .busyPoll :: []
      ∧ (polling [true, true, false]).peer.levels
        = List.replicate 2 (polling [true, true, false]).params.busyActive ++ [false])
    ∧ ((polling [false]).blockRuns ∧ (polling [false]).cfg = some frameConfig ∧ (polling [false]).todo = .busyPoll :: []
      ∧ (polling [false]).peer.nextLevel ≠ (polling [false]).params.busyActive) := by
  unfold State.blockRuns; decide

theorem witness_IndexAndDataFramesSent : (withPeer []).cfg = some frameConfig := rfl

theorem witness_ReadIdAndBlockFramesSent : (withPeer []).cfg = some frameConfig := rfl

theorem witness_RowFramesSent : (withPeer []).cfg = some frameConfig := rfl

theorem witness_FrameWithoutConfigurationStops : State.reset.cfg = none ∧ Instr.cogRead.isFrame = true := by decide

theorem witness_PartialMappingPlacement : (0xFF : Byte) = ~~~0x00 := by decide

theorem witness_LookupTables : (2 : BitVec 3).getLsbD 1 = true ∧ (5 : BitVec 3).getLsbD 1 = false := by decide

/-- The first and the last row of LARGE. -/
theorem witness_ScanSelectsOneRow :
    ScanPlacement.reference.okFor .large = true ∧ ScanPlacement.reference.pattern ≠ 0
    ∧ 0 < PanelSize.large.height ∧ 175 < PanelSize.large.height ∧ 175 ≠ 0 := by decide +kernel

/-- A stage of a full update. -/
def atStage (k : Nat) : State := { State.reset with work := { Work.initial with stage := k } }

theorem witness_StageTable :
    ((atStage 0).kind = .full ∧ (atStage 0).work.stage = 0) ∧ ((atStage 1).kind = .full ∧ (atStage 1).work.stage = 1)
    ∧ ((atStage 2).kind = .full ∧ (atStage 2).work.stage = 2) ∧ ((atStage 3).kind = .full ∧ (atStage 3).work.stage = 3)
    ∧ State.kind { State.reset with kind := .partialPass } = .partialPass := by decide

/-- One exchange of the last row of MEDIUM in a partial update, over this memory. -/
def exchanging (src : ByteSource) (m : Memory) : State :=
  { running [.exchange src] with kind := .partialPass, work := { Work.initial with row := 95 }, mem := m }

/-- The last byte of NEW, OVR and PREV of MEDIUM. -/
def lastBytes : Memory := [(newBase + 2399, 1), (ovrBase + 2399, 2), (prevBase + 2399, 3)]

/-- One exchange of this stage of a full update, nothing but the last byte of OVR written. -/
def fullExchanging (stage : Nat) : State :=
  { exchanging (.even 24) [(ovrBase + 2399, 2)] with kind := .full, work := { Work.initial with row := 95, stage := stage } }

/-- The last byte of the last row of MEDIUM, in a partial update with its bytes unwritten and with them written, and in
stages 1 and 2 of a full one with only OVR written. -/
theorem witness_RowBytesReadWhenSent :
    (∀ m ∈ [[], lastBytes], (exchanging (.even 24) m).blockRuns ∧ (exchanging (.even 24) m).cfg = some frameConfig
      ∧ (exchanging (.even 24) m).prevSource = some (.buffer ovrBase)
      ∧ (exchanging (.even 24) m).todo = .exchange (.even 24) :: []
      ∧ (exchanging (.odd 24) m).todo = .exchange (.odd 24) :: []
      ∧ (exchanging (.scan 23) m).todo = .exchange (.scan 23) :: []
      ∧ (exchanging (.const 0) m).todo = .exchange (.const 0) :: [])
    ∧ (exchanging (.even 24) []).recordOf ((exchanging (.even 24) []).readsFor (.buffer ovrBase) 2399)
      = some (.blockRead (newBase + 2399))
    ∧ (exchanging (.even 24) lastBytes).recordOf ((exchanging (.even 24) []).readsFor (.buffer ovrBase) 2399) = none
    ∧ (fullExchanging 1).recordOf ((fullExchanging 1).readsFor (.buffer ovrBase) 2399) = none
    ∧ (fullExchanging 2).recordOf ((fullExchanging 2).readsFor (.buffer ovrBase) 2399)
      = some (.blockRead (newBase + 2399)) := by
  unfold State.blockRuns; decide

theorem witness_RowTransmission :
    (running [.rowStart]).blockRuns ∧ (running [.rowStart]).cfg = some frameConfig
    ∧ (running [.rowStart]).prevSource = some (.buffer ovrBase) ∧ (running [.rowStart]).todo = .rowStart :: [] := by
  unfold State.blockRuns; decide

theorem witness_SweepAscending :
    (running [.sweepStart]).blockRuns ∧ (running [.sweepStart]).cfg = some frameConfig
    ∧ (running [.sweepStart]).prevSource = some (.buffer ovrBase)
    ∧ (running [.sweepStart]).todo = .sweepStart :: [] := by
  unfold State.blockRuns; decide

theorem witness_FixedStageRuns :
    (running [.stageStart]).blockRuns ∧ (running [.stageStart]).cfg = some frameConfig
    ∧ (running [.stageStart]).prevSource = some (.buffer ovrBase) ∧ (running [.stageStart]).todo = .stageStart :: []
    ∧ (running [.stageStart]).budget = .fixed 1 ∧ 1 ≤ 1 ∧ 1 < 2 ^ 31 := by
  unfold State.blockRuns; decide

/-- A clock that reaches a budget of 10 ms at the second sweep. -/
def timedStage : State :=
  { running [.stageStart] with budget := .timeMs 10, peer := { Peer.initial with ticks := [5, 9, 1] } }

/-- The start of a stage or pass with that clock, in this kind of update, this mode and this stage. -/
def timedStart (kind : UpdateKind) (mode : TimedStageMode) (stage : Nat) : State :=
  { timedStage with
    kind := kind
    params := { Params.reference with timedStageMode := mode }
    work := { Work.initial with stage := stage } }

/-- Each form of a stage timed on its own, at its first and last stage: a partial pass under both modes, a stage under
PER_STAGE, stage 0 under COUNT_FROM_FIRST. -/
theorem witness_TimedStageRuns :
    ∀ form ∈ [(UpdateKind.partialPass, TimedStageMode.perStage, 0), (.partialPass, .countFromFirst, 0),
        (.full, .perStage, 0), (.full, .perStage, 3), (.full, .countFromFirst, 0)],
      let s := timedStart form.1 form.2.1 form.2.2
      s.blockRuns ∧ s.cfg = some frameConfig ∧ s.prevSource = some (.buffer ovrBase) ∧ s.todo = .stageStart :: []
      ∧ s.budget = .timeMs 10
      ∧ (s.kind = .partialPass ∨ s.params.timedStageMode = .perStage ∨ s.work.stage = 0)
      ∧ s.peer.timedSweeps 10 0 2 := by
  have clock : timedStage.peer.timedSweeps 10 0 2 := by
    refine ⟨by decide, fun j h1 h2 => ?_, by decide⟩
    obtain rfl : j = 1 := by omega
    decide
  intro form h
  refine ⟨⟨rfl, rfl, rfl⟩, rfl, ?_, rfl, rfl, ?_, clock⟩ <;> revert form h <;> decide

/-- A clock that stands still for `m` reads and then shows 1 ms. -/
def stalledPeer (m : Nat) : Peer := { Peer.initial with ticks := List.replicate m 0 ++ [1] }

theorem stalledPeer_nowAt (m : Nat) : ∀ k ≤ m, (stalledPeer m).nowAt k = if k < m then 0 else 1 := by
  induction m with
  | zero => intro k hk; obtain rfl : k = 0 := by omega
            rfl
  | succ m ih =>
    intro k hk
    cases k with
    | zero => simp [Peer.nowAt, Peer.nextNow, stalledPeer, Peer.initial, List.replicate_succ]
    | succ k =>
      have later : (stalledPeer (m + 1)).tookNow = stalledPeer m := rfl
      rw [Peer.nowAt, later, ih k (by omega)]
      simp

/-- With a budget of 1 ms that clock makes `m` sweeps. -/
theorem stalledPeer_timedSweeps (m : Nat) (h : 1 ≤ m) : (stalledPeer m).timedSweeps 1 0 m := by
  refine ⟨h, fun j _ hj => ?_, ?_⟩ <;> simp only [Nat.zero_add]
  · simp [stalledPeer_nowAt m j (by omega), stalledPeer_nowAt m 0 (by omega), hj]
  · simp [stalledPeer_nowAt m m le_rfl, stalledPeer_nowAt m 0 (by omega), show 0 < m by omega]

/-- The least sweep count, the greatest that the 31 bits of `sweep` hold, and the least that they do not. -/
theorem witness_TimedStageRuns_counts :
    ∀ m ∈ [1, 2147483647, 2147483648],
      let s := { timedStart .full .perStage 0 with budget := .timeMs 1, peer := stalledPeer m }
      State.blockRuns s ∧ s.cfg = some frameConfig ∧ State.prevSource s = some (.buffer ovrBase)
      ∧ s.todo = .stageStart :: [] ∧ s.budget = .timeMs 1 ∧ s.params.timedStageMode = .perStage
      ∧ s.peer.timedSweeps 1 0 m := by
  intro m h
  have : 1 ≤ m := by simp at h; omega
  exact ⟨⟨rfl, rfl, rfl⟩, rfl, rfl, rfl, rfl, rfl, stalledPeer_timedSweeps m this⟩

/-- Stage 1 of a timed full update under COUNT_FROM_FIRST, stage 0 having taken `n` sweeps. -/
def countedStage (n : Nat) : State :=
  { running [.stageStart] with
    budget := .timeMs 10
    params := { Params.reference with timedStageMode := .countFromFirst }
    work := { Work.initial with stage := 1, firstSweeps := n } }

theorem witness_CountFromFirstStageRuns :
    (∀ n ∈ [0, 1, 3], (countedStage n).blockRuns ∧ (countedStage n).cfg = some frameConfig
      ∧ (countedStage n).prevSource = some (.buffer ovrBase) ∧ (countedStage n).todo = .stageStart :: []
      ∧ (countedStage n).budget = .timeMs 10 ∧ (countedStage n).kind = .full
      ∧ (countedStage n).params.timedStageMode = .countFromFirst ∧ 1 ≤ (countedStage n).work.stage
      ∧ (countedStage n).work.firstSweeps = n ∧ n < 2 ^ 31) := by
  unfold State.blockRuns; decide

theorem witness_CommitCopies :
    (running [.commit]).blockRuns ∧ (running [.commit]).cfg = some frameConfig
    ∧ (running [.commit]).todo = .commit :: [] := by
  unfold State.blockRuns; decide

/-- A host that waits, with a command running and with none. -/
def waiting (busy : Bool) : State := { State.reset with host := [.wait, .yield], busy := busy }

/-- The first and the last word of the register window; `wait` while busy and while idle; `result`. -/
theorem witness_RegisterReads :
    (accessing (.read32 0)).host = .access .first (.read32 (State.reset.params.blockBase + 0)) :: []
    ∧ (accessing (.read32 0x1C)).host = .access .first (.read32 (State.reset.params.blockBase + 0x1C)) :: []
    ∧ 0x1C < 0x20 ∧ 0x1C % 4 = 0
    ∧ ((waiting true).host = .wait :: [.yield] ∧ (waiting true).status.getLsbD 4 = true)
    ∧ ((waiting false).host = .wait :: [.yield] ∧ (waiting false).status.getLsbD 4 = false)
    ∧ State.host { State.reset with host := resultProgram Params.reference ++ [.yield] }
      = resultProgram State.reset.params ++ [.yield] := by decide

/-- ARG and the last word of the register window. -/
theorem witness_RegisterWrites :
    (accessing (.write32 4 7)).host = .access .first (.write32 (State.reset.params.blockBase + 4) 7) :: []
    ∧ (accessing (.write32 0x1C 7)).host = .access .first (.write32 (State.reset.params.blockBase + 0x1C) 7) :: []
    ∧ 4 % 4 = 0 ∧ 4 ≠ 0 ∧ 0x1C < 0x20 := by decide

/-- For each clause an address next to the accepted ones: misaligned, past the window, before and past a buffer, and
PREV for a write. -/
theorem witness_RefusedAccess :
    ((accessing (.read32 2)).host = .access .first (.read32 2) :: []
      ∧ ¬ (0 ≤ 2 ∧ 2 < 0 + 0x20 ∧ (2 - 0) % 4 = 0))
    ∧ ((accessing (.write32 0x20 7)).host = .access .first (.write32 0x20 7) :: []
      ∧ ¬ (0 ≤ 0x20 ∧ 0x20 < 0 + 0x20 ∧ (0x20 - 0) % 4 = 0))
    ∧ ((accessing (.read8 0xFFFF)).host = .access .first (.read8 0xFFFF) :: []
      ∧ ¬ (0 + 0x10000 ≤ 0xFFFF ∧ 0xFFFF < 0 + 0x10000 + 5808)
      ∧ ¬ (0 + 0x20000 ≤ 0xFFFF ∧ 0xFFFF < 0 + 0x20000 + 5808)
      ∧ ¬ (0 + 0x30000 ≤ 0xFFFF ∧ 0xFFFF < 0 + 0x30000 + 5808))
    ∧ ((accessing (.write8 0x30000 7)).host = .access .first (.write8 0x30000 7) :: []
      ∧ ¬ (0 + 0x10000 ≤ 0x30000 ∧ 0x30000 < 0 + 0x10000 + 5808)
      ∧ ¬ (0 + 0x20000 ≤ 0x30000 ∧ 0x30000 < 0 + 0x20000 + 5808)) := by decide

/-- A write by this agent of the last byte of OVR while an update runs. -/
def updating (agent : Agent) : State :=
  { issuedWith 0x05000000 0 0 0 with host := [.access agent (.write8 0x216AF 7)] }

/-- The first byte of NEW with no command running, and the last byte of OVR while an update runs, by either agent. -/
theorem witness_BufferWrites :
    (accessing (.write8 0x10000 7)).host
        = .access .first (.write8 (State.reset.params.blockBase + 0x10000 + 0) 7) :: []
      ∧ (accessing (.write8 0x10000 7)).busy = false
      ∧ (∀ agent ∈ [Agent.first, .second],
        (updating agent).host = .access agent (.write8 (State.reset.params.blockBase + 0x20000 + 5807) 7) :: []
        ∧ (updating agent).busy = true ∧ (updating agent).command &&& 0xFFFEFFFF = 0x05000000) ∧ 5807 < 5808 := by
  decide

/-- A read of the last byte of OVR, over this memory. -/
def readingOvr (m : Memory) : State := { accessing (.read8 0x216AF) with mem := m }

/-- A read of the first byte of PREV, which is valid or not. -/
def readingPrev (valid : Bool) : State := { accessing (.read8 0x30000) with prevValid := valid }

/-- A written byte and an unwritten one; PREV while it is valid and while it is empty. -/
theorem witness_BufferReads :
    ((readingOvr [(0x216AF, 9)]).host
        = .access .first (.read8 ((readingOvr []).params.blockBase + 0x20000 + 5807)) :: []
      ∧ (readingOvr [(0x216AF, 9)]).mem.read (0x20000 + 5807) = some 9
      ∧ (readingOvr []).mem.read (0x20000 + 5807) = none)
    ∧ ((readingPrev true).host = .access .first (.read8 ((readingPrev true).params.blockBase + 0x30000 + 0)) :: []
      ∧ (readingPrev true).prevValid = true ∧ (readingPrev false).prevValid = false) := by decide

/-- The greatest count and the least time. -/
theorem witness_StatusAndTimingFields :
    State.reset.budget = .unset
    ∧ (State.budget { State.reset with budget := .fixed 2147483647 } = .fixed 2147483647 ∧ 2147483647 < 2 ^ 31)
    ∧ State.budget { State.reset with budget := .timeMs 1 } = .timeMs 1 := by decide

/-- Idle, and in a frame being sent. -/
theorem witness_ResetAbandons :
    (State.host { State.reset with host := [.reset 0] } = .reset 0 :: []
      ∧ State.busy { State.reset with host := [.reset 0] } = false)
    ∧ (State.host { running [.send .cogId] with host := [.reset 2] } = .reset 2 :: []
      ∧ (running [.send .cogId]).busy = true ∧ (running [.send .cogId]).pending = false
      ∧ (running [.send .cogId]).todo = .send .cogId :: [] ∧ (running [.send .cogId]).cfg = some frameConfig) := by
  decide

/-- A full update with no configuration, and a partial one with no budget. -/
theorem witness_UnreadyUpdateRejected :
    ((issuedWith 0x05000000 0 0 0).issued 0x05000000 ∧ (0x05000000 : Word32) &&& 0xFFFEFFFF = 0x05000000
      ∧ (issuedWith 0x05000000 0 0 0).cfg = none)
    ∧ (State.issued { issuedWith 0x06010000 0 0 0 with cfg := some frameConfig } 0x06010000
      ∧ (0x06010000 : Word32) &&& 0xFFFEFFFF = 0x06000000
      ∧ State.budget { issuedWith 0x06010000 0 0 0 with cfg := some frameConfig } = .unset
      ∧ (State.prevSource { issuedWith 0x06010000 0 0 0 with kind := .partialPass, ovr := true }).isSome = true) := by
  unfold State.issued; decide

/-- An update about to render, with its power-off, commit and completion to follow. -/
def rendering : State := running (.renderStart :: (powerOffOps Params.reference frameConfig ++ [.commit, .complete .ok]))

theorem rendering_inv : rendering.Inv where
  mem := List.Pairwise.nil
  pins := List.Pairwise.nil
  cfg := by intro c h; cases h; decide
  budget := rfl
  work := by unfold Work.fits; decide
  prev := by intro h; cases h
  control := by
    right; right; right; right
    exact ⟨rfl, rfl, rfl, by decide, by decide, false, by decide⟩

theorem witness_InvKept : ∃ t, rendering.Inv ∧ step rendering = .next t := ⟨_, rendering_inv, rfl⟩

theorem witness_NeverStuck : rendering.Inv := rendering_inv

theorem witness_HostFaultSticky :
    ∃ t, step { rendering with hostFault := some .cmdWhileBusy, readFault := some (.hostRead 0x10000) } = .next t
      ∧ t.hostFault.isSome = true ∧ t.readFault.isSome = true := ⟨_, rfl, rfl, rfl⟩

theorem not_resets_of_nil {s : State} (h : s.host = []) : ¬ s.resets := by
  rintro ⟨k, rest, hr⟩
  rw [h] at hr
  cases hr

theorem witness_PrevOnlyByCommit :
    ∃ t, step rendering = .next t ∧ ¬ rendering.resets ∧ ∀ rest, rendering.todo ≠ .commit :: rest :=
  ⟨_, rfl, not_resets_of_nil rfl, fun _ h => by cases h⟩

/-- SET_TIMING_FIXED issued with ARG = 5. -/
theorem issued_inv : (issuedWith 0x02000000 5 0 0).Inv where
  mem := List.Pairwise.nil
  pins := List.Pairwise.nil
  cfg := by intro c h; cases h
  budget := rfl
  work := by unfold Work.fits; decide
  prev := by intro h; cases h
  control := by right; left; exact ⟨rfl, rfl, rfl, rfl, rfl⟩

theorem witness_BudgetOnlyByTiming :
    ∃ t, (issuedWith 0x02000000 5 0 0).Inv ∧ step (issuedWith 0x02000000 5 0 0) = .next t
      ∧ ¬ (issuedWith 0x02000000 5 0 0).resets ∧ t.budget ≠ (issuedWith 0x02000000 5 0 0).budget :=
  ⟨_, issued_inv, rfl, not_resets_of_nil rfl, by decide⟩

theorem witness_ResultOnlyByComplete :
    ∃ t, step (running [.complete .dcFail]) = .next t ∧ ¬ (running [.complete .dcFail]).resets
      ∧ (t.lastResult ≠ (running [.complete .dcFail]).lastResult
        ∨ ((running [.complete .dcFail]).busy = true ∧ t.busy = false)) :=
  ⟨_, rfl, not_resets_of_nil rfl, by decide⟩

/-- A timed stage starts, with two clock readings in the log. -/
def clocked : State :=
  { timedStage with logRev := [.clock 9, .clock 4], peer := { Peer.initial with lastNow := 9, ticks := [0] } }

theorem witness_ClockNeverDecreases :
    ∃ t, step clocked = .next t ∧ (clockValues clocked.log).Pairwise (· ≤ ·)
      ∧ ∀ v ∈ clockValues clocked.log, v ≤ clocked.peer.lastNow := ⟨_, rfl, by decide, by decide⟩

theorem witness_ExchangesOnlyInSession :
    ∃ t, (issuedWith 0x02000000 5 0 0).Inv ∧ step (issuedWith 0x02000000 5 0 0) = .next t
      ∧ (issuedWith 0x02000000 5 0 0).session = false := ⟨_, issued_inv, rfl, rfl⟩

end Sys2Proof.Tests
end

section
/-! Proofs of the family 10_state.md. First the layer the proofs share: what an instruction, a host access and a
step of the machine can do, each said once. -/

namespace Sys2Proof.Machine

/-! ### Instructions -/

/-- The working registers after a frame whose last exchange returned `r`: READ and ID keep that byte (10_state.md R23). -/
def workAfter (r : Byte) (w : Work) : Instr → Work
  | .cogRead => { w with statusByte := r }
  | .cogId => { w with chipId := r }
  | .cogIndex _ | .cogData _ | .cogBlock _ | .cogRowSmall .. | .cogRowMedium .. | .cogRowLarge .. => w
  | .configure | .setTimingFixed | .setTimingBudget | .setTimingTemp | .fullUpdate _ | .partialUpdate _ => w

theorem workAfter_fits {w : Work} (h : w.fits) (r : Byte) (i : Instr) : (workAfter r w i).fits := by
  cases i <;> exact h

theorem sendFrame_work (s : State) (cs : PinId) (bytes : List Byte) : (s.sendFrame cs bytes).work = s.work := by
  rw [sendFrame_frame]

/-- Every COG frame is one `sendInstr`, which READ and ID follow by keeping a byte (40_transport.md R136 to R138). -/
theorem exec_frame {i : Instr} (hi : i.isFrame = true) (s : State) :
    exec i s = sendInstr i (fun r t => { t with work := workAfter r t.work i }) s := by
  cases i with
  | configure | setTimingFixed | setTimingBudget | setTimingTemp | fullUpdate | partialUpdate => cases hi
  | cogIndex | cogData | cogRead | cogId | cogBlock | cogRowSmall | cogRowMedium | cogRowLarge => rfl

/-- A COG frame under a configuration: its bytes are sent, and READ and ID keep the last one returned. -/
theorem exec_frame_configured {i : Instr} (hi : i.isFrame = true) {s : State} {c : DriverConfig}
    (hc : s.cfg = some c) :
    exec i s = .next
      { s.sendFrame c.cs (frameBytes s.params.headers i) with
        work := workAfter (s.peer.byteAt ((frameBytes s.params.headers i).length - 1)) s.work i } := by
  simp only [exec_frame hi, sendInstr, hc, State.lastByteOf, sendFrame_work]

/-- A COG frame that answers a next state had a configuration to be sent under (log entry 15). -/
theorem exec_frame_next {i : Instr} (hi : i.isFrame = true) {s t : State} (h : exec i s = .next t) :
    ∃ c r, s.cfg = some c ∧
      t = { s.sendFrame c.cs (frameBytes s.params.headers i) with work := workAfter r s.work i } := by
  cases hc : s.cfg with
  | none => simp only [exec_frame hi, sendInstr, hc] at h; cases h
  | some c => rw [exec_frame_configured hi hc] at h; cases h; exact ⟨c, _, rfl, rfl⟩

/-- The budget a timing command stores from a positive 32-bit ARG is in range (45_timing_policy.md R301, R302). -/
theorem argValue_toNat_range (s : State) (h : ¬ s.argValue ≤ 0) :
    1 ≤ s.argValue.toNat ∧ s.argValue.toNat < 2 ^ 31 := by
  have : s.argValue < 2 ^ 31 := BitVec.toInt_lt
  omega

theorem multiplier10_range (t : Int) : 7 ≤ multiplier10 t ∧ multiplier10 t ≤ 170 := by
  unfold multiplier10
  repeat' split
  all_goals decide

theorem tempBudget_range (t : Int) : 1 ≤ tempBudget t ∧ tempBudget t < 2 ^ 31 := by
  have := multiplier10_range t
  unfold tempBudget
  omega

/-- What a host command does at its one step: it ends with a code, sets the configuration or a budget in range and
ends, or starts an update (45_timing_policy.md R301 to R303, 46_host_commands.md R332 to R334). -/
theorem exec_command_cases {i : Instr} (hi : i.isFrame = false) {s t : State} (h : exec i s = .next t) :
    (∃ code, t = s.plan [.complete code]) ∨
    (∃ c, s.cfg = none ∧ s.captured.config s.params = some c ∧ t = { s with cfg := some c }.plan [.complete .ok]) ∨
    (∃ b : Budget, b.wf = true ∧ t = { s with budget := b }.plan [.complete .ok]) ∨
    ∃ kind ovr, t = s.startUpdate kind ovr := by
  cases i with
  | configure =>
    simp only [exec, execConfigure] at h
    split at h
    · cases h; exact .inl ⟨_, rfl⟩
    · next hn =>
      split at h
      · cases h; exact .inl ⟨_, rfl⟩
      · next c hc => cases h; exact .inr (.inl ⟨c, hn, hc, rfl⟩)
  | setTimingFixed =>
    simp only [exec, execSetTimingFixed] at h
    split at h
    · cases h; exact .inl ⟨_, rfl⟩
    · next hp =>
      cases h
      exact .inr (.inr (.inl ⟨.fixed _, by simpa [Budget.wf] using argValue_toNat_range s hp, rfl⟩))
  | setTimingBudget =>
    simp only [exec, execSetTimingBudget] at h
    split at h
    · cases h; exact .inl ⟨_, rfl⟩
    · next hp =>
      cases h
      exact .inr (.inr (.inl ⟨.timeMs _, by simpa [Budget.wf] using argValue_toNat_range s hp, rfl⟩))
  | setTimingTemp =>
    cases h
    exact .inr (.inr (.inl ⟨.timeMs _, by simpa [Budget.wf] using tempBudget_range s.argValue, rfl⟩))
  | fullUpdate ovr => cases h; exact .inr (.inr (.inr ⟨.full, ovr, rfl⟩))
  | partialUpdate ovr => cases h; exact .inr (.inr (.inr ⟨.partialPass, ovr, rfl⟩))
  | cogIndex | cogData | cogRead | cogId | cogBlock | cogRowSmall | cogRowMedium | cogRowLarge => cases hi

/-- A command word decodes to a host command only (30_encoding.md R91). -/
theorem decodeWord_isCommand {w : Word32} {i : Instr} (h : decodeWord w = .ok i) : i.isFrame = false := by
  have rows : ∀ row ∈ hostRows, ∀ o, (row.instr o).isFrame = false := by decide
  unfold decodeWord at h
  split at h
  · next row hf => cases h; exact rows row (List.mem_of_find?_eq_some hf) _
  · cases h

/-! ### Host accesses and the steps of the machine -/

/-- A write to the register window: it issues a command to an idle block, or stores a staging register; a host fault may
be recorded (20_memory.md R68, 70_reset_and_hazards.md R412). -/
theorem writeReg_cases (s : State) (agent : Agent) (o : Nat) (v : Word32) :
    ∃ hf, (hf = s.hostFault ∨ hf.isSome = true) ∧
      ((s.busy = false ∧ s.writeReg agent o v = { s with hostFault := hf }.issue v) ∨
        ∃ g, s.writeReg agent o v = { s with staging := g, hostFault := hf }) := by
  unfold State.writeReg
  split
  · unfold State.writeCmd
    cases hb : s.busy <;> cases agent
    · exact ⟨s.hostFault, .inl rfl, .inl ⟨rfl, rfl⟩⟩
    · exact ⟨some .secondAgent, .inr rfl, .inl ⟨rfl, rfl⟩⟩
    · exact ⟨some .cmdWhileBusy, .inr rfl, .inr ⟨s.staging, rfl⟩⟩
    · exact ⟨some .secondAgent, .inr rfl, .inr ⟨s.staging, rfl⟩⟩
  · refine ⟨s.hostFault, .inl rfl, .inr ?_⟩
    repeat' split
    all_goals exact ⟨_, rfl⟩

/-- A read of a buffer byte answers it, and may record a read fault. -/
theorem readBuffer_cases (s : State) (a : Nat) :
    ∃ rf r, (rf = s.readFault ∨ rf.isSome = true) ∧ s.readBuffer a = { s with readFault := rf }.respond r := by
  unfold State.readBuffer
  split
  · exact ⟨_, _, .inl rfl, rfl⟩
  · exact ⟨_, _, .inr rfl, rfl⟩

theorem readPrev_cases (s : State) (a : Nat) :
    ∃ rf r, (rf = s.readFault ∨ rf.isSome = true) ∧ s.readPrev a = { s with readFault := rf }.respond r := by
  unfold State.readPrev
  split
  · exact readBuffer_cases s a
  · exact ⟨_, _, .inr rfl, rfl⟩

/-- A byte of NEW or OVR is below PREV (20_memory.md R61). -/
theorem placeAt_newByte_lt {o i : Nat} (h : placeAt o = .newByte i) : newBase + i < prevBase := by
  unfold placeAt at h
  split_ifs at h with h1 h2
  injection h with h
  unfold newBase maxFrameBytes at h2
  unfold newBase at h
  unfold newBase prevBase
  omega

theorem placeAt_ovrByte_lt {o i : Nat} (h : placeAt o = .ovrByte i) : ovrBase + i < prevBase := by
  unfold placeAt at h
  split_ifs at h with h1 h2 h3
  injection h with h
  unfold ovrBase maxFrameBytes at h3
  unfold ovrBase at h
  unfold ovrBase prevBase
  omega

theorem placeOf_eq_placeAt {p : Params} {a : Nat} (h : placeOf p a ≠ .nowhere) : ∃ o, placeOf p a = placeAt o := by
  unfold placeOf at *
  split
  · exact ⟨_, rfl⟩
  · next hn => rw [if_neg hn] at h; exact absurd rfl h

/-- What a host access does besides being answered: nothing but the record of a read, a write to the register window, or
a write to a byte below PREV (20_memory.md R65 to R69). -/
theorem hostAccess_cases (agent : Agent) (x : Access) (s : State) :
    ∃ r, (∃ rf, (rf = s.readFault ∨ rf.isSome = true) ∧ hostAccess agent x s = { s with readFault := rf }.respond r) ∨
      (∃ o v, hostAccess agent x s = (s.writeReg agent o v).respond r) ∨
      ∃ a v, a < prevBase ∧ hostAccess agent x s = (s.writeBuffer a v).respond r := by
  cases x with
  | read32 a =>
    simp only [hostAccess]
    split
    · split <;> exact ⟨_, .inl ⟨s.readFault, .inl rfl, rfl⟩⟩
    all_goals exact ⟨_, .inl ⟨s.readFault, .inl rfl, rfl⟩⟩
  | write32 a v =>
    simp only [hostAccess]
    split
    · split
      · exact ⟨_, .inr (.inl ⟨_, v, rfl⟩)⟩
      · exact ⟨_, .inl ⟨s.readFault, .inl rfl, rfl⟩⟩
    all_goals exact ⟨_, .inl ⟨s.readFault, .inl rfl, rfl⟩⟩
  | read8 a =>
    simp only [hostAccess]
    split
    · obtain ⟨rf, r, hrf, e⟩ := readBuffer_cases s (newBase + _)
      exact ⟨r, .inl ⟨rf, hrf, e⟩⟩
    · obtain ⟨rf, r, hrf, e⟩ := readBuffer_cases s (ovrBase + _)
      exact ⟨r, .inl ⟨rf, hrf, e⟩⟩
    · obtain ⟨rf, r, hrf, e⟩ := readPrev_cases s (prevBase + _)
      exact ⟨r, .inl ⟨rf, hrf, e⟩⟩
    all_goals exact ⟨_, .inl ⟨s.readFault, .inl rfl, rfl⟩⟩
  | write8 a v =>
    simp only [hostAccess]
    split
    · next hp =>
      obtain ⟨o, ho⟩ := placeOf_eq_placeAt (p := s.params) (a := a) (by rw [hp]; nofun)
      exact ⟨_, .inr (.inr ⟨_, v, placeAt_newByte_lt (ho ▸ hp), rfl⟩)⟩
    · next hp =>
      obtain ⟨o, ho⟩ := placeOf_eq_placeAt (p := s.params) (a := a) (by rw [hp]; nofun)
      exact ⟨_, .inr (.inr ⟨_, v, placeAt_ovrByte_lt (ho ▸ hp), rfl⟩)⟩
    all_goals exact ⟨_, .inl ⟨s.readFault, .inl rfl, rfl⟩⟩

/-- A step of the machine: a step of the block, a host access (a turn of `wait` is a read of STATUS), or a reset. -/
theorem step_cases {s t : State} (h : step s = .next t) :
    (∃ rest, blockStep { s with host := rest } = .next t) ∨
    (∃ agent x rest, t = hostAccess agent x { s with host := rest }) ∨
    ∃ calls rest, s.host = .reset calls :: rest ∧ t = State.takeReset { s with host := rest } calls := by
  simp only [step, advance] at h
  split at h
  · exact .inl ⟨s.host, h⟩
  · exact .inl ⟨_, h⟩
  · next rest _ =>
    cases h
    exact .inr (.inl ⟨.first, .read32 (s.params.blockBase + regStatus),
      if s.busy then .yield :: .wait :: rest else rest, rfl⟩)
  · cases h; exact .inr (.inl ⟨_, _, _, rfl⟩)
  · next hh => cases h; exact .inr (.inr ⟨_, _, hh, rfl⟩)

end Sys2Proof.Machine
end

section
/-! What one sequencer step can do and what it keeps. -/

namespace Sys2Proof.Machine

/-! ### The outcomes of a sequencer step that chooses -/

theorem withConfig_next {s t : State} {f : DriverConfig → Result} (h : withConfig s f = .next t) :
    ∃ c, s.cfg = some c ∧ f c = .next t := by
  unfold withConfig at h
  split at h
  · next c hc => exact ⟨c, hc, h⟩
  · cases h

/-- VALIDATING rejects the update or, with all it needs there, starts it (42_power_sequencer.md R202, R203). -/
theorem runValidate_cases (s : State) :
    (∃ code, runValidate s = s.rejectUpdate code) ∨
      ∃ c, s.cfg = some c ∧ s.prevSource.isSome = true ∧ s.budget ≠ .unset ∧
        runValidate s = (s.enter .resetting).plan (updateOps s.params c) := by
  unfold runValidate
  cases hc : s.cfg with
  | none => exact .inl ⟨_, rfl⟩
  | some c =>
    cases hp : s.prevSource with
    | none => exact .inl ⟨_, rfl⟩
    | some prev =>
      cases hb : s.budget with
      | unset => exact .inl ⟨_, rfl⟩
      | fixed n => exact .inr ⟨c, rfl, rfl, nofun, rfl⟩
      | timeMs n => exact .inr ⟨c, rfl, rfl, nofun, rfl⟩

theorem runBusyPoll_cases (c : DriverConfig) (rest : List Op) (s : State) :
    ∃ ops, runBusyPoll c rest s = (s.pinRead c.busy).plan ops ∧ (ops = rest ∨ ops = .delay 1 :: .busyPoll :: rest) := by
  unfold runBusyPoll
  split
  · exact ⟨_, rfl, .inr rfl⟩
  · exact ⟨_, rfl, .inl rfl⟩

/-- A check of the power-up: the sequence goes on, the update fails, or (CHARGING) another attempt is made
(42_power_sequencer.md R212, R213, R215 to R217). -/
theorem check_cases {op : Op} {rest : List Op} {s t : State} (hop : op ∈ [Op.checkId, .checkPanel, .checkDc])
    (h : runOp op rest s = .next t) :
    ∃ c, s.cfg = some c ∧ (t = s.plan rest ∨ (∃ code, t = s.failUpdate c code) ∨
      s.work.attempt < 4 ∧ t =
        { s with
          work := { s.work with attempt := s.work.attempt + 1 }
          todo := chargeAttemptOps s.params ++ rest }) := by
  simp only [List.mem_cons, List.not_mem_nil, or_false] at hop
  obtain rfl | rfl | rfl := hop
  · obtain ⟨c, hc, e⟩ := withConfig_next h
    unfold runCheckId at e
    refine ⟨c, hc, ?_⟩
    split at e <;> cases e
    · exact .inl rfl
    · exact .inr (.inl ⟨_, rfl⟩)
  · obtain ⟨c, hc, e⟩ := withConfig_next h
    unfold runCheckPanel at e
    refine ⟨c, hc, ?_⟩
    split at e <;> cases e
    · exact .inr (.inl ⟨_, rfl⟩)
    · exact .inl rfl
  · obtain ⟨c, hc, e⟩ := withConfig_next h
    unfold runCheckDc at e
    refine ⟨c, hc, ?_⟩
    split at e
    · cases e; exact .inl rfl
    · split at e <;> cases e
      · next hlt => exact .inr (.inr ⟨hlt, rfl⟩)
      · exact .inr (.inl ⟨_, rfl⟩)

theorem stageDone_cases (rest : List Op) (s : State) :
    s.stageDone rest = s.plan rest ∨
      s.work.stage < 3 ∧ ∃ n, (n = s.work.sweep ∨ n = s.work.firstSweeps) ∧
        s.stageDone rest =
          { s with work := { s.work with stage := s.work.stage + 1, firstSweeps := n }, todo := .stageStart :: rest } := by
  unfold State.stageDone
  split
  · exact .inl rfl
  · split
    · next h =>
      refine .inr ⟨h, _, ?_, rfl⟩
      split
      · exact .inl rfl
      · exact .inr rfl
    · exact .inl rfl

/-- Where a stage starts or a sweep ends: the state goes on to the next sweep or its stage is done. -/
def StageGoesOn (rest : List Op) (u t : State) : Prop := t = u.plan (.sweepStart :: rest) ∨ t = u.stageDone rest

theorem runStageStart_cases {rest : List Op} {s t : State} (h : runStageStart rest s = .next t) :
    ∃ u start, (u = s ∨ u = s.readClock) ∧
      StageGoesOn rest { u with work := { s.work with sweep := 0, tStart := start } } t := by
  simp only [runStageStart] at h
  split at h
  · cases h
  · refine ⟨s, s.work.tStart, .inl rfl, ?_⟩
    split at h <;> cases h
    · exact .inr rfl
    · exact .inl rfl
  · cases h
    exact ⟨s.readClock, _, .inr rfl, .inl rfl⟩

theorem runSweepEnd_cases {rest : List Op} {s t : State} (h : runSweepEnd rest s = .next t) :
    ∃ u, (u = s.countSweep ∨ u = s.countSweep.readClock) ∧ StageGoesOn rest u t := by
  simp only [runSweepEnd] at h
  split at h
  · cases h
  · refine ⟨s.countSweep, .inl rfl, ?_⟩
    split at h <;> cases h
    · exact .inl rfl
    · exact .inr rfl
  · refine ⟨s.countSweep.readClock, .inr rfl, ?_⟩
    split at h <;> cases h
    · exact .inr rfl
    · exact .inl rfl

/-- One exchange of a ROW frame: one byte is sent, and the record of reads and `byteIx` may change (43_frame_renderer.md
R250). -/
theorem runExchange_cases {c : DriverConfig} {src : ByteSource} {s t : State} (h : runExchange c src s = .next t) :
    ∃ b rf i, (rf = s.readFault ∨ rf.isSome = true) ∧ (src.fits = true → i = s.work.byteIx ∨ i < 64) ∧
      t = (({ s with readFault := rf } : State).exchange b).atByte i := by
  have reads : ∀ l, s.recordOf l = s.readFault ∨ (s.recordOf l).isSome = true := fun l => by
    unfold State.recordOf
    split
    · exact .inr rfl
    · exact .inl rfl
  cases src with
  | const b => cases h; exact ⟨b, _, s.work.byteIx, .inl rfl, fun _ => .inl rfl, rfl⟩
  | scan j => cases h; exact ⟨_, _, j, .inl rfl, fun hj => .inr (of_decide_eq_true hj), rfl⟩
  | even j =>
    simp only [runExchange, noteMappedRead_eq] at h
    split at h <;> cases h
    exact ⟨_, _, j, reads _, fun hj => .inr (of_decide_eq_true hj), rfl⟩
  | odd j =>
    simp only [runExchange, noteMappedRead_eq] at h
    split at h <;> cases h
    exact ⟨_, _, j, reads _, fun hj => .inr (of_decide_eq_true hj), rfl⟩

theorem runRowEnd_cases (c : DriverConfig) (rest : List Op) (s : State) :
    runRowEnd c rest s = s.plan (.sweepEnd :: rest) ∨
      s.work.row + 1 < 256 ∧ runRowEnd c rest s =
        { s with work := { s.work with row := s.work.row + 1 }, todo := .rowStart :: rest } := by
  have height : c.size.height ≤ 176 := by cases c.size <;> decide
  unfold runRowEnd
  split
  · exact .inr ⟨by omega, rfl⟩
  · exact .inl rfl

/-! ### Pins and working registers -/

theorem frameRun_pins_wf {s : State} (h : SparseWf s.pins) (cs : PinId) (calls : List FrameCall) :
    SparseWf (s.frameRun cs calls).pins := by
  induction calls generalizing s with
  | nil => exact h
  | cons call calls ih =>
    refine ih (s := State.frameCall cs s call) ?_
    cases call with
    | assert => exact sparsePut_wf h _ _
    | exchange b => exact h
    | deassert => exact sparsePut_wf h _ _

theorem stageGoesOn_frame {rest : List Op} {u t : State} (h : StageGoesOn rest u t) :
    t = { u with work := t.work, todo := t.todo } := by
  obtain rfl | rfl := h
  · rfl
  · obtain e | ⟨-, n, -, e⟩ := stageDone_cases rest u
    · rw [e]; rfl
    · rw [e]

theorem stageGoesOn_work_fits {rest : List Op} {u t : State} (h : StageGoesOn rest u t) (hu : u.work.fits) :
    t.work.fits := by
  obtain rfl | rfl := h
  · exact hu
  · obtain e | ⟨hlt, n, hn, e⟩ := stageDone_cases rest u <;> rw [e]
    · exact hu
    · obtain ⟨-, hsweep, hrow, hbyte, hatt, hfirst⟩ := hu
      refine ⟨Nat.succ_lt_succ hlt, hsweep, hrow, hbyte, hatt, ?_⟩
      obtain rfl | rfl := hn <;> assumption

theorem countSweep_frame (s : State) :
    s.countSweep = { s with work := s.countSweep.work, freeSweeps := s.countSweep.freeSweeps } := by
  obtain ⟨-, e⟩ | ⟨-, v, e⟩ := countSweep_cases s <;> rw [e]

theorem countSweep_work_fits {s : State} (h : s.work.fits) : s.countSweep.work.fits := by
  obtain ⟨hstage, hsweep, hrow, hbyte, hatt, hfirst⟩ := h
  obtain ⟨hlt, e⟩ | ⟨-, v, e⟩ := countSweep_cases s <;> rw [e]
  · exact ⟨hstage, hlt, hrow, hbyte, hatt, hfirst⟩
  · exact ⟨hstage, v.isLt, hrow, hbyte, hatt, hfirst⟩

/-! ### What a sequencer step keeps -/

/-- From `s` one step of the sequencer led to `t`. The parameters, configuration, budget, operands, host side and reset
count are as they were; only a commit changes memory, only a completion clears BUSY or writes the result, no record of a
read is lost; pins stay canonical and, where an exchange's index fits, so do the working registers (10_state.md R23). -/
structure OpKeeps (op : Op) (s t : State) : Prop where
  frame : t = { s with
    prevValid := t.prevValid, fsm := t.fsm, busy := t.busy, lastResult := t.lastResult, session := t.session,
    work := t.work, mem := t.mem, todo := t.todo, pins := t.pins, logRev := t.logRev, peer := t.peer,
    readFault := t.readFault, freeSweeps := t.freeSweeps }
  memory : op ≠ .commit → t.mem = s.mem ∧ t.prevValid = s.prevValid
  result : (∀ code, op ≠ .complete code) → t.busy = s.busy ∧ t.lastResult = s.lastResult
  record : t.readFault = s.readFault ∨ t.readFault.isSome = true
  pins : SparseWf s.pins → SparseWf t.pins
  work : (∀ src, op = .exchange src → src.fits = true) → s.work.fits → t.work.fits

section
variable {op : Op} {s t : State} (k : OpKeeps op s t)
include k

theorem OpKeeps.params : t.params = s.params := by rw [k.frame]
theorem OpKeeps.cfg : t.cfg = s.cfg := by rw [k.frame]
theorem OpKeeps.budget : t.budget = s.budget := by rw [k.frame]
theorem OpKeeps.kind : t.kind = s.kind := by rw [k.frame]
theorem OpKeeps.ovr : t.ovr = s.ovr := by rw [k.frame]
theorem OpKeeps.pending : t.pending = s.pending := by rw [k.frame]

end

/-- The steps that change neither memory, nor BUSY and the result, nor the record of reads. -/
theorem OpKeeps.of_quiet {op : Op} {s t : State}
    (h : t = { s with
      fsm := t.fsm, session := t.session, work := t.work, todo := t.todo, pins := t.pins, logRev := t.logRev,
      peer := t.peer, freeSweeps := t.freeSweeps })
    (hpins : SparseWf s.pins → SparseWf t.pins) (hwork : s.work.fits → t.work.fits) : OpKeeps op s t where
  frame := by rw [h]
  memory := fun _ => by rw [h]; exact ⟨rfl, rfl⟩
  result := fun _ => by rw [h]; exact ⟨rfl, rfl⟩
  record := by rw [h]; exact .inl rfl
  pins := hpins
  work := fun _ => hwork

/-- Every sequencer step keeps what `OpKeeps` says; a `send` step holds a COG frame. -/
theorem runOp_keeps {op : Op} {rest : List Op} {s t : State} (hsend : ∀ i, op = .send i → i.isFrame = true)
    (h : runOp op rest s = .next t) : OpKeeps op s t := by
  cases op with
  | enter | pinDir | delay | sessionBegin | sessionEnd => cases h; exact .of_quiet rfl id id
  | pinWrite | csAssert | csDeassert => cases h; exact .of_quiet rfl (fun hp => sparsePut_wf hp _ _) id
  | validate =>
    cases h
    obtain ⟨code, e⟩ | ⟨c, -, -, -, e⟩ := runValidate_cases s <;> (rw [e]; exact .of_quiet rfl id id)
  | send i =>
    obtain ⟨c, r, -, rfl⟩ := exec_frame_next (hsend i rfl) h
    exact .of_quiet (by rw [sendFrame_frame]) (fun hp => frameRun_pins_wf hp _ _) (fun hw => workAfter_fits hw r i)
  | busyPoll =>
    obtain ⟨c, -, e⟩ := withConfig_next h
    cases e
    obtain ⟨ops, e, -⟩ := runBusyPoll_cases c rest s
    rw [e]; exact .of_quiet rfl id id
  | checkId | checkPanel | checkDc =>
    obtain ⟨c, -, rfl | ⟨code, rfl⟩ | ⟨hlt, rfl⟩⟩ := check_cases (by simp) h
    · exact .of_quiet rfl id id
    · exact .of_quiet rfl id id
    · exact .of_quiet rfl id fun ⟨hstage, hsweep, hrow, hbyte, _, hfirst⟩ =>
        ⟨hstage, hsweep, hrow, hbyte, by change s.work.attempt + 1 < 8; omega, hfirst⟩
  | chargeStart =>
    cases h
    exact .of_quiet rfl id fun ⟨hstage, hsweep, hrow, hbyte, _, hfirst⟩ =>
      ⟨hstage, hsweep, hrow, hbyte, by change 1 < 8; decide, hfirst⟩
  | renderStart =>
    cases h
    exact .of_quiet rfl id fun ⟨_, hsweep, hrow, hbyte, hatt, _⟩ =>
      ⟨Nat.zero_lt_succ _, hsweep, hrow, hbyte, hatt, Nat.two_pow_pos 31⟩
  | stageStart =>
    obtain ⟨u, start, hu, hg⟩ := runStageStart_cases h
    refine .of_quiet ?_ ?_ fun ⟨hstage, _, hrow, hbyte, hatt, hfirst⟩ =>
      stageGoesOn_work_fits hg ⟨hstage, Nat.two_pow_pos 31, hrow, hbyte, hatt, hfirst⟩
    all_goals
      rw [stageGoesOn_frame hg]
      obtain rfl | rfl := hu
    exacts [rfl, rfl, id, id]
  | sweepStart =>
    cases h
    exact .of_quiet rfl id fun ⟨hstage, hsweep, _, hbyte, hatt, hfirst⟩ =>
      ⟨hstage, hsweep, Nat.zero_lt_succ _, hbyte, hatt, hfirst⟩
  | sweepEnd =>
    obtain ⟨u, hu, hg⟩ := runSweepEnd_cases h
    refine .of_quiet ?_ ?_ fun hw => stageGoesOn_work_fits hg ?_
    · rw [stageGoesOn_frame hg]
      obtain rfl | rfl := hu
      · rw [countSweep_frame]
      · rw [countSweep_frame]; rfl
    · rw [stageGoesOn_frame hg]
      obtain rfl | rfl := hu <;> (rw [countSweep_frame]; exact id)
    · obtain rfl | rfl := hu <;> exact countSweep_work_fits hw
  | rowStart =>
    obtain ⟨c, -, e⟩ := withConfig_next h
    cases e; exact .of_quiet rfl id id
  | exchange src =>
    obtain ⟨c, -, e⟩ := withConfig_next h
    obtain ⟨b, rf, i, hrf, hi, rfl⟩ := runExchange_cases e
    refine ⟨rfl, fun _ => ⟨rfl, rfl⟩, fun _ => ⟨rfl, rfl⟩, hrf, id, ?_⟩
    intro hsrc ⟨hstage, hsweep, hrow, hbyte, hatt, hfirst⟩
    have hi : i < 64 := (hi (hsrc src rfl)).elim (fun e => e ▸ hbyte) id
    exact ⟨hstage, hsweep, hrow, hi, hatt, hfirst⟩
  | rowEnd =>
    obtain ⟨c, -, e⟩ := withConfig_next h
    cases e
    obtain e | ⟨hlt, e⟩ := runRowEnd_cases c rest s <;> rw [e]
    · exact .of_quiet rfl id id
    · exact .of_quiet rfl id fun ⟨hstage, hsweep, _, hbyte, hatt, hfirst⟩ =>
        ⟨hstage, hsweep, hlt, hbyte, hatt, hfirst⟩
  | commit =>
    obtain ⟨c, -, e⟩ := withConfig_next h
    cases e
    exact ⟨rfl, fun hn => absurd rfl hn, fun _ => ⟨rfl, rfl⟩, .inl rfl, id, fun _ => id⟩
  | complete code =>
    cases h
    exact ⟨rfl, fun _ => ⟨rfl, rfl⟩, fun hn => absurd rfl (hn code), .inl rfl, id, fun _ => id⟩

end Sys2Proof.Machine
end

section
/-! The invariant of the block holds after reset and every step keeps it (O51, O52). -/

namespace Sys2Proof.Machine

/-! ### Sound programs -/

/-- Steps that leave a program's soundness to what follows them, with no frame open. -/
theorem progOk_borderOps {session : Bool} {fsm : Fsm} {rest : List Op} (c : DriverConfig) (ops : PinId → List Op)
    (h : ∀ b, progOk session false fsm (ops b ++ rest) = progOk session false fsm rest) :
    progOk session false fsm (borderOps c ops ++ rest) = progOk session false fsm rest := by
  unfold borderOps
  split
  · exact h _
  · rfl

/-- The power-off closes the session and ends in OFF (42_power_sequencer.md R220, R222). -/
theorem progOk_powerOff (p : Params) (c : DriverConfig) (fsm : Fsm) (rest : List Op) :
    progOk true false fsm (powerOffOps p c ++ rest) = progOk false false .off rest := by
  simp [powerOffOps, regWrite, progOk, Instr.isFrame, progOk_borderOps]

theorem progOk_chargeAttempt (p : Params) (fsm : Fsm) (rest : List Op) :
    progOk true false fsm (chargeAttemptOps p ++ rest) = progOk true false fsm rest := by
  simp [chargeAttemptOps, regWrite, regRead, progOk, Instr.isFrame]

/-- The program of an update after VALIDATING is sound (42_power_sequencer.md R200). -/
theorem progOk_update (p : Params) (c : DriverConfig) : progOk false false .resetting (updateOps p c) = true := by
  simp [updateOps, resettingOps, directionOps, idleLevelOps, resetPulseOps, probingOps, configuringOps, readyOps,
    regWrite, regRead, regWriteBlock, progOk, Instr.isFrame, progOk_borderOps, progOk_powerOff]

theorem progOk_exchanges (fsm : Fsm) (srcs : List ByteSource) (h : ∀ src ∈ srcs, src.fits = true) (rest : List Op) :
    progOk true true fsm (srcs.map .exchange ++ rest) = progOk true true fsm rest := by
  induction srcs with
  | nil => rfl
  | cons src srcs ih =>
    have hsrc := h src List.mem_cons_self
    have ih := ih fun x hx => h x (List.mem_cons_of_mem src hx)
    simp [progOk, hsrc, ih]

/-- The bytes of a row are few enough for `byteIx` (10_state.md R23). -/
theorem rowSources_fit (p : Params) (size : PanelSize) : ∀ src ∈ rowSources p size, src.fits = true := by
  have hb : size.bytesPerLine < 64 := by cases size <;> decide
  have hs : size.scanBytes < 64 := by cases size <;> decide
  intro src h
  simp only [rowSources, List.mem_append, List.mem_map, List.mem_reverse, List.mem_range] at h
  obtain ((((h | h) | ⟨b, h, rfl⟩) | ⟨j, h, rfl⟩) | ⟨b, h, rfl⟩) | h := h
  case inl.inl.inl.inr => exact decide_eq_true (by omega)
  case inl.inl.inr => exact decide_eq_true (by omega)
  case inl.inr => exact decide_eq_true (by omega)
  case inl.inl.inl.inl.inl => rw [List.mem_singleton.mp h]; rfl
  all_goals
    split at h
    · rw [List.mem_singleton.mp h]; rfl
    · cases h

/-- A row transmission opens and closes its frames (43_frame_renderer.md R250, 70_reset_and_hazards.md R413). -/
theorem progOk_row (p : Params) (c : DriverConfig) (rest : List Op) :
    progOk true false .ready (rowOps p c ++ rest) = progOk true false .ready rest := by
  simp [rowOps, regWrite, progOk, Instr.isFrame, progOk_exchanges _ _ (rowSources_fit p c.size)]

/-- A stage that goes on, or is done, leaves a sound program (43_frame_renderer.md R252, R254). -/
theorem stageGoesOn_progOk {rest : List Op} {u t : State} (h : StageGoesOn rest u t)
    (hok : progOk true false .ready rest = true) :
    progOk true false .ready t.todo = true ∧ t.session = u.session ∧ t.fsm = u.fsm := by
  obtain rfl | rfl := h
  · exact ⟨by simpa [progOk] using hok, rfl, rfl⟩
  · obtain e | ⟨-, n, -, e⟩ := stageDone_cases rest u <;> rw [e]
    · exact ⟨hok, rfl, rfl⟩
    · exact ⟨by simpa [progOk] using hok, rfl, rfl⟩

/-- The next step of a sound program either completes the command, in OFF with the session closed, or leaves a sound
program (42_power_sequencer.md R222, 46_host_commands.md R334). -/
theorem runOp_progOk {op : Op} {rest : List Op} {s t : State} {frame : Bool} (ht : s.todo = rest)
    (hok : progOk s.session frame s.fsm (op :: rest) = true) (h : runOp op rest s = .next t) :
    (∃ code, t = s.complete code ∧ s.fsm = .off ∧ s.session = false) ∨
      ∃ frame', progOk t.session frame' t.fsm t.todo = true := by
  subst ht
  cases op with
  | validate => cases hok
  | complete code =>
    cases h
    simp only [progOk, Bool.and_eq_true, Bool.not_eq_true', decide_eq_true_eq] at hok
    obtain ⟨⟨⟨hs, -⟩, hf⟩, -⟩ := hok
    exact .inl ⟨code, rfl, hf, hs⟩
  | enter g =>
    cases h
    simp only [progOk, Bool.and_eq_true] at hok
    exact .inr ⟨frame, hok.2⟩
  | pinDir | pinWrite | delay | csDeassert =>
    cases h
    simp only [progOk, Bool.and_eq_true] at hok
    exact .inr ⟨_, hok.2⟩
  | sessionBegin | sessionEnd | csAssert =>
    cases h
    simp only [progOk, Bool.and_eq_true] at hok
    exact .inr ⟨_, hok.2⟩
  | send i =>
    simp only [progOk, Bool.and_eq_true] at hok
    obtain ⟨⟨-, hi⟩, hok⟩ := hok
    obtain ⟨c, r, -, rfl⟩ := exec_frame_next hi h
    rw [sendFrame_frame]
    exact .inr ⟨frame, hok⟩
  | busyPoll =>
    simp only [progOk, Bool.and_eq_true] at hok
    obtain ⟨⟨hs, hn⟩, hok⟩ := hok
    obtain ⟨c, -, e⟩ := withConfig_next h
    cases e
    obtain ⟨ops, e, rfl | rfl⟩ := runBusyPoll_cases c s.todo s <;> rw [e] <;> refine .inr ⟨frame, ?_⟩
    · exact hok
    · simpa [progOk, hs, hn] using hok
  | checkId | checkPanel | checkDc =>
    simp only [progOk, Bool.and_eq_true, Bool.not_eq_true'] at hok
    obtain ⟨⟨hs, rfl⟩, hok⟩ := hok
    obtain ⟨c, -, rfl | ⟨code, rfl⟩ | ⟨-, rfl⟩⟩ := check_cases (by simp) h <;> refine .inr ⟨false, ?_⟩
    · exact hok
    · simp [hs, progOk_powerOff, progOk]
    · rw [hs] at hok
      simpa [hs, progOk_chargeAttempt] using hok
  | chargeStart =>
    cases h
    simp only [progOk, Bool.and_eq_true, Bool.not_eq_true'] at hok
    obtain ⟨⟨hs, rfl⟩, hok⟩ := hok
    rw [hs] at hok
    exact .inr ⟨false, by simpa [runChargeStart, hs, progOk_chargeAttempt] using hok⟩
  | renderStart | sweepStart =>
    cases h
    exact .inr ⟨frame, hok⟩
  | stageStart =>
    simp only [progOk, Bool.and_eq_true, Bool.not_eq_true', decide_eq_true_eq] at hok
    obtain ⟨⟨⟨hs, rfl⟩, hf⟩, hok⟩ := hok
    rw [hs, hf] at hok
    obtain ⟨u, start, hu, hg⟩ := runStageStart_cases h
    obtain ⟨hok, es, ef⟩ := stageGoesOn_progOk hg hok
    have hu : u.session = true ∧ u.fsm = .ready := by obtain rfl | rfl := hu <;> exact ⟨hs, hf⟩
    exact .inr ⟨false, by rw [es, ef]; simpa [hu] using hok⟩
  | sweepEnd =>
    simp only [progOk, Bool.and_eq_true, Bool.not_eq_true', decide_eq_true_eq] at hok
    obtain ⟨⟨⟨hs, rfl⟩, hf⟩, hok⟩ := hok
    rw [hs, hf] at hok
    obtain ⟨u, hu, hg⟩ := runSweepEnd_cases h
    obtain ⟨hok, es, ef⟩ := stageGoesOn_progOk hg hok
    have hu : u.session = true ∧ u.fsm = .ready := by
      obtain rfl | rfl := hu <;> rw [countSweep_frame] <;> exact ⟨hs, hf⟩
    exact .inr ⟨false, by rw [es, ef]; simpa [hu] using hok⟩
  | rowStart =>
    simp only [progOk, Bool.and_eq_true, Bool.not_eq_true', decide_eq_true_eq] at hok
    obtain ⟨⟨⟨hs, rfl⟩, hf⟩, hok⟩ := hok
    rw [hs, hf] at hok
    obtain ⟨c, -, e⟩ := withConfig_next h
    cases e
    exact .inr ⟨false, by simpa [hs, hf, progOk_row] using hok⟩
  | rowEnd =>
    obtain ⟨c, -, e⟩ := withConfig_next h
    cases e
    obtain e | ⟨-, e⟩ := runRowEnd_cases c s.todo s <;> rw [e] <;> exact .inr ⟨frame, hok⟩
  | exchange src =>
    simp only [progOk, Bool.and_eq_true] at hok
    obtain ⟨-, hok⟩ := hok
    obtain ⟨c, -, e⟩ := withConfig_next h
    obtain ⟨b, rf, i, -, -, rfl⟩ := runExchange_cases e
    exact .inr ⟨frame, hok⟩
  | commit =>
    simp only [progOk, Bool.and_eq_true] at hok
    obtain ⟨-, hok⟩ := hok
    obtain ⟨c, -, e⟩ := withConfig_next h
    cases e
    exact .inr ⟨frame, hok⟩

/-! ### The sound data of a state -/

/-- The part of the invariant that is not about the place in the sequence (10_state.md R21, R23, 70_reset_and_hazards.md
R405). -/
structure State.Sound (s : State) : Prop where
  mem : s.mem.wf
  pins : SparseWf s.pins
  cfg : ∀ c, s.cfg = some c → c.wf s.params = true
  budget : s.budget.wf = true
  work : s.work.fits
  prev : s.prevOk

theorem inv_iff (s : State) : s.Inv ↔ s.Sound ∧ s.controlOk :=
  ⟨fun h => ⟨⟨h.mem, h.pins, h.cfg, h.budget, h.work, h.prev⟩, h.control⟩,
    fun ⟨h, hc⟩ => ⟨h.mem, h.pins, h.cfg, h.budget, h.work, h.prev, hc⟩⟩

/-- Soundness reads seven fields only. -/
theorem State.Sound.congr {s t : State} (h : s.Sound) (hp : t.params = s.params) (hc : t.cfg = s.cfg)
    (hb : t.budget = s.budget) (hv : t.prevValid = s.prevValid) (hm : t.mem = s.mem) (hpins : SparseWf t.pins)
    (hw : t.work.fits) : t.Sound where
  mem := hm ▸ h.mem
  pins := hpins
  cfg := fun c e => hp ▸ h.cfg c (hc ▸ e)
  budget := hb ▸ h.budget
  work := hw
  prev := by
    have := h.prev
    unfold State.prevOk at *
    rwa [hv, hc, hm]

/-- The commit writes every byte of PREV it makes valid (43_frame_renderer.md R256). -/
theorem State.Sound.commitPrev {s : State} (h : s.Sound) {c : DriverConfig} (hc : s.cfg = some c) :
    (s.commitPrev c.size).Sound where
  mem := memory_writeBlock_wf h.mem _ _
  pins := h.pins
  cfg := h.cfg
  budget := h.budget
  work := h.work
  prev := fun _ => ⟨c, hc, fun i hi => by rw [commitPrev_read, if_pos ⟨by omega, by omega⟩]; rfl⟩

theorem runOp_sound {op : Op} {rest : List Op} {s t : State} (hsend : ∀ i, op = .send i → i.isFrame = true)
    (hsrc : ∀ src, op = .exchange src → src.fits = true) (hs : s.Sound) (h : runOp op rest s = .next t) : t.Sound := by
  have k := runOp_keeps hsend h
  by_cases hop : op = .commit
  · subst hop
    obtain ⟨c, hc, e⟩ := withConfig_next h
    cases e
    exact hs.commitPrev hc
  · obtain ⟨hm, hv⟩ := k.memory hop
    exact hs.congr k.params k.cfg k.budget hv hm (k.pins hs.pins) (k.work hsrc hs.work)

/-- The previous frame of an update does not go away while it runs. -/
theorem prevSource_isSome_of_keeps {op : Op} {rest : List Op} {s t : State} (k : OpKeeps op s t)
    (h : runOp op rest s = .next t) (hs : s.prevSource.isSome = true) : t.prevSource.isSome = true := by
  by_cases hop : op = .commit
  · subst hop
    obtain ⟨c, -, e⟩ := withConfig_next h
    cases e
    unfold State.prevSource
    split <;> simp
  · have e : t.prevSource = s.prevSource := by
      obtain ⟨-, hv⟩ := k.memory hop
      unfold State.prevSource
      rw [hv, k.params, k.ovr, k.kind]
    rw [e, hs]

/-! ### The place in the sequence -/

theorem work_initial_fits : Work.initial.fits := by unfold Work.fits; decide

theorem controlOk_of_completing {s : State} {code : ResultCode} (hb : s.busy = true) (hp : s.pending = false)
    (ht : s.todo = [.complete code]) (hf : s.fsm = .off) (hse : s.session = false) : s.controlOk :=
  .inr (.inr (.inr (.inl ⟨hb, hp, ⟨code, ht⟩, hf, hse⟩)))

theorem controlOk_of_updating {s : State} (hb : s.busy = true) (hp : s.pending = false) (hu : s.updating) :
    s.controlOk := .inr (.inr (.inr (.inr ⟨hb, hp, hu⟩)))

/-- What lies outside the block, and the records, are no part of the invariant. -/
theorem State.Inv.outside {s : State} (h : s.Inv) (host : List HostAction) (g : Staging) (hf : Option HostFault)
    (rf : Option ReadFault) (rs : List Response) :
    ({ s with host := host, staging := g, hostFault := hf, readFault := rf, responsesRev := rs } : State).Inv :=
  ⟨h.mem, h.pins, h.cfg, h.budget, h.work, h.prev, h.control⟩

/-- In a sound state BUSY is 0 only where the block is idle in OFF (46_host_commands.md R339). -/
theorem State.controlOk.of_not_busy {s : State} (h : s.controlOk) (hb : s.busy = false) :
    s.pending = false ∧ s.todo = [] ∧ s.fsm = .off ∧ s.session = false := by
  obtain ⟨-, hidle⟩ | ⟨hb', -⟩ | ⟨hb', -⟩ | ⟨hb', -⟩ | ⟨hb', -⟩ := h
  · exact hidle
  all_goals rw [hb] at hb'; cases hb'

theorem State.Inv.issue {s : State} (h : s.Inv) (hb : s.busy = false) (w : Word32) : (s.issue w).Inv := by
  obtain ⟨-, ht, hf, hs⟩ := h.control.of_not_busy hb
  exact ⟨h.mem, h.pins, h.cfg, h.budget, work_initial_fits, h.prev, .inr (.inl ⟨rfl, rfl, ht, hf, hs⟩)⟩

/-- A host's byte write, which cannot reach PREV, keeps the promise about PREV (20_memory.md R68). -/
theorem State.Inv.writeBuffer {s : State} (h : s.Inv) {a : Nat} (ha : a < prevBase) (v : Byte) :
    (s.writeBuffer a v).Inv where
  mem := memory_write_wf h.mem a v
  pins := h.pins
  cfg := h.cfg
  budget := h.budget
  work := h.work
  prev := fun hv => by
    obtain ⟨c, hc, hread⟩ := h.prev hv
    refine ⟨c, hc, fun i hi => ?_⟩
    have : (s.writeBuffer a v).mem.read (prevBase + i) = s.mem.read (prevBase + i) :=
      memory_read_write_other s.mem v (by omega)
    rw [this, hread i hi]
  control := h.control

/-- A host access keeps the invariant, whether or not a command runs. -/
theorem hostAccess_inv {s : State} (h : s.Inv) (agent : Agent) (x : Access) : (hostAccess agent x s).Inv := by
  obtain ⟨r, ⟨rf, -, e⟩ | ⟨o, v, e⟩ | ⟨a, v, ha, e⟩⟩ := hostAccess_cases agent x s <;> rw [e]
  · exact h.outside s.host s.staging s.hostFault rf (r :: s.responsesRev)
  · obtain ⟨hf, -, ⟨hb, e⟩ | ⟨g, e⟩⟩ := writeReg_cases s agent o v <;> rw [e]
    · have hi := (h.outside s.host s.staging hf s.readFault (r :: s.responsesRev)).issue hb v
      exact hi
    · exact h.outside s.host g hf s.readFault (r :: s.responsesRev)
  · have hi := h.writeBuffer ha v
    exact hi.outside s.host s.staging _ s.readFault (r :: s.responsesRev)

/-- A configuration made from the staging registers is valid (46_host_commands.md R331). -/
theorem config_wf {p : Params} {g : Staging} {c : DriverConfig} (h : g.config p = some c) : c.wf p = true := by
  unfold Staging.config at h
  split at h
  · cases h
  · next size _ =>
    split at h
    · next hpins =>
      split at h
      · cases h
      · next border hb =>
        cases h
        cases size
        case large =>
          simp only [borderOf] at hb
          split at hb <;> cases hb
          next hborder => simpa [DriverConfig.wf, hborder] using hpins
        all_goals
          cases hb
          simpa [DriverConfig.wf] using hpins
    · cases h

/-- Running an issued command keeps the invariant: its one step leaves the block about to complete, or VALIDATING. -/
theorem runCommand_inv {s t : State} (hs : s.Sound) (hb : s.busy = true) (hf : s.fsm = .off) (hse : s.session = false)
    (h : runCommand s = .next t) : t.Inv := by
  rw [inv_iff]
  obtain ⟨i, hd, e⟩ | ⟨r, -, e⟩ := runCommand_cases s <;> rw [e] at h
  · obtain ⟨code, rfl⟩ | ⟨c, hn, hc, rfl⟩ | ⟨b, hbud, rfl⟩ | ⟨kind, ovr, rfl⟩ :=
      exec_command_cases (decodeWord_isCommand hd) h
    · exact ⟨hs.congr rfl rfl rfl rfl rfl hs.pins hs.work, controlOk_of_completing hb rfl rfl hf hse⟩
    · refine ⟨⟨hs.mem, hs.pins, ?_, hs.budget, hs.work, ?_⟩, controlOk_of_completing hb rfl rfl hf hse⟩
      · rintro _ ⟨⟩
        exact config_wf hc
      · intro hv
        obtain ⟨c', hc', -⟩ := hs.prev hv
        exact absurd (hn.symm.trans hc') nofun
    · exact ⟨⟨hs.mem, hs.pins, hs.cfg, hbud, hs.work, hs.prev⟩,
        controlOk_of_completing hb rfl rfl hf hse⟩
    · exact ⟨hs.congr rfl rfl rfl rfl rfl hs.pins hs.work, .inr (.inr (.inl ⟨hb, rfl, rfl, rfl, hse⟩))⟩
  · cases h
    exact ⟨hs.congr rfl rfl rfl rfl rfl hs.pins hs.work, controlOk_of_completing hb rfl rfl hf hse⟩

/-- The step of an update that runs leaves it running, or completes it. -/
theorem update_step_inv {op : Op} {rest : List Op} {s t : State} (hs : s.Sound) (hb : s.busy = true)
    (hp : s.pending = false) (hu : s.updating) (ht : s.todo = op :: rest) (h : runOp op rest (s.plan rest) = .next t) :
    t.Inv := by
  obtain ⟨hcfg, hprev, hbud, frame, hok⟩ := hu
  rw [ht] at hok
  have hsend : ∀ i, op = .send i → i.isFrame = true := by
    rintro i rfl
    simp only [progOk, Bool.and_eq_true] at hok
    exact hok.1.2
  have hsrc : ∀ src, op = .exchange src → src.fits = true := by
    rintro src rfl
    simp only [progOk, Bool.and_eq_true] at hok
    exact hok.1.2
  have hs' : (s.plan rest).Sound := hs.congr rfl rfl rfl rfl rfl hs.pins hs.work
  refine (inv_iff t).mpr ⟨runOp_sound hsend hsrc hs' h, ?_⟩
  obtain ⟨code, rfl, hf, hse⟩ | hok' := runOp_progOk rfl hok h
  · exact .inl ⟨rfl, hp, rfl, hf, hse⟩
  · have k := runOp_keeps hsend h
    have hne : ∀ code, op ≠ .complete code := by
      rintro code rfl
      cases h
      obtain ⟨frame', hok'⟩ := hok'
      cases hok'
    obtain ⟨hbusy, -⟩ := k.result hne
    exact controlOk_of_updating (hbusy.trans hb) (k.pending.trans hp)
      ⟨k.cfg ▸ hcfg, prevSource_isSome_of_keeps k h hprev, k.budget ▸ hbud, hok'⟩

/-- VALIDATING ends in OFF, about to complete with an error, or starts the update. -/
theorem runValidate_inv {s : State} (hs : s.Sound) (hb : s.busy = true) (hp : s.pending = false)
    (hse : s.session = false) : (runValidate s).Inv := by
  rw [inv_iff]
  obtain ⟨code, e⟩ | ⟨c, hc, hprev, hbud, e⟩ := runValidate_cases s <;> rw [e] <;>
    refine ⟨hs.congr rfl rfl rfl rfl rfl hs.pins hs.work, ?_⟩
  · exact controlOk_of_completing hb hp rfl rfl hse
  · refine controlOk_of_updating hb hp ⟨?_, hprev, hbud, false, ?_⟩
    · change s.cfg.isSome = true
      rw [hc]; rfl
    · change progOk s.session false .resetting _ = true
      rw [hse]; exact progOk_update s.params c

/-- Every step of the block keeps the invariant. -/
theorem blockStep_inv {s t : State} (hi : s.Inv) (h : blockStep s = .next t) : t.Inv := by
  obtain ⟨hs, hc⟩ := (inv_iff s).mp hi
  obtain ⟨hb, e⟩ | ⟨hb, hp, e⟩ | ⟨-, -, -, e⟩ | ⟨op, rest, hb, hp, ht, e⟩ := blockStep_cases s <;> rw [e] at h
  · cases h; exact hi
  · obtain ⟨hb', -⟩ | ⟨-, -, -, hf, hse⟩ | ⟨-, hp', -⟩ | ⟨-, hp', -⟩ | ⟨-, hp', -⟩ := hc
    · rw [hb] at hb'; cases hb'
    · exact runCommand_inv hs hb hf hse h
    all_goals rw [hp] at hp'; cases hp'
  · cases h
  · obtain ⟨hb', -⟩ | ⟨-, hp', -⟩ | ⟨-, -, ht', -, hse⟩ | ⟨-, -, ⟨code, ht'⟩, hf, hse⟩ | ⟨-, -, hu⟩ := hc
    · rw [hb] at hb'; cases hb'
    · rw [hp] at hp'; cases hp'
    · rw [ht] at ht'
      cases ht'
      cases h
      exact runValidate_inv (s := s.plan []) (hs.congr rfl rfl rfl rfl rfl hs.pins hs.work) hb hp hse
    · rw [ht] at ht'
      cases ht'
      cases h
      exact (inv_iff _).mpr ⟨hs.congr rfl rfl rfl rfl rfl hs.pins hs.work, .inl ⟨rfl, hp, rfl, hf, hse⟩⟩
    · exact update_step_inv hs hb hp hu ht h

/-- A cut frame changes what its calls change. -/
theorem cutFrame_cases (s : State) (calls : Nat) : s.cutFrame calls = s ∨ ∃ cs l, s.cutFrame calls = s.frameRun cs l := by
  unfold State.cutFrame
  split
  · exact .inr ⟨_, _, rfl⟩
  · exact .inl rfl

/-- A reset, at any point, leaves a state that meets the invariant: the pins keep their levels, all else that the
invariant reads is as after power-on (70_reset_and_hazards.md R400). -/
theorem takeReset_inv {s : State} (h : s.Inv) (calls : Nat) : (s.takeReset calls).Inv where
  mem := .nil
  pins := by
    obtain e | ⟨cs, l, e⟩ := cutFrame_cases s calls <;> simp only [State.takeReset, e]
    · exact h.pins
    · exact frameRun_pins_wf h.pins cs l
  cfg := nofun
  budget := rfl
  work := work_initial_fits
  prev := nofun
  control := .inl ⟨rfl, rfl, rfl, rfl, rfl⟩

/-- Settles O52: each kind of step keeps the invariant; the sequencer's steps by `runOp_sound` and `runOp_progOk`. -/
theorem invKept : Obligations.InvKept := by
  intro s t hi h
  have outside : ∀ rest, ({ s with host := rest } : State).Inv := fun rest =>
    hi.outside rest s.staging s.hostFault s.readFault s.responsesRev
  obtain ⟨rest, hblock⟩ | ⟨agent, x, rest, rfl⟩ | ⟨calls, rest, -, rfl⟩ := step_cases h
  · exact blockStep_inv (outside rest) hblock
  · exact hostAccess_inv (outside rest) agent x
  · exact takeReset_inv (outside rest) calls

/-- Settles O51. -/
theorem invAtReset : Obligations.InvAtReset where
  mem := .nil
  pins := .nil
  cfg := nofun
  budget := rfl
  work := work_initial_fits
  prev := nofun
  control := .inl ⟨rfl, rfl, rfl, rfl, rfl⟩

end Sys2Proof.Machine
end

section
/-! The configuration and the parameters through a step (O15), and the register window: reads, writes and the fields of
STATUS and TIMING (O42, O43, O47). -/

namespace Sys2Proof.Machine

/-! ### The configuration and the parameters -/

/-- The parameters are the same, and a configuration that was set is the same (10_state.md R21, R22). -/
def KeepsSetup (s t : State) : Prop := t.params = s.params ∧ ∀ c, s.cfg = some c → t.cfg = some c

theorem keepsSetup_of_eq {s t : State} (hp : t.params = s.params) (hc : t.cfg = s.cfg) : KeepsSetup s t :=
  ⟨hp, fun _ h => hc.trans h⟩

/-- No instruction, not CONFIGURE either, changes a configuration that is set. -/
theorem exec_keepsSetup {i : Instr} {s t : State} (h : exec i s = .next t) : KeepsSetup s t := by
  cases hi : i.isFrame with
  | true =>
    obtain ⟨c, r, -, rfl⟩ := exec_frame_next hi h
    rw [sendFrame_frame]
    exact keepsSetup_of_eq rfl rfl
  | false =>
    obtain ⟨code, rfl⟩ | ⟨c, hn, -, rfl⟩ | ⟨b, -, rfl⟩ | ⟨kind, ovr, rfl⟩ := exec_command_cases hi h
    · exact keepsSetup_of_eq rfl rfl
    · exact ⟨rfl, fun c' hc' => absurd (hn.symm.trans hc') nofun⟩
    · exact keepsSetup_of_eq rfl rfl
    · exact keepsSetup_of_eq rfl rfl

theorem blockStep_keepsSetup {s t : State} (h : blockStep s = .next t) : KeepsSetup s t := by
  obtain ⟨-, e⟩ | ⟨-, -, e⟩ | ⟨-, -, -, e⟩ | ⟨op, rest, -, -, -, e⟩ := blockStep_cases s <;> rw [e] at h
  · cases h; exact keepsSetup_of_eq rfl rfl
  · obtain ⟨i, -, e⟩ | ⟨r, -, e⟩ := runCommand_cases s <;> rw [e] at h
    · exact exec_keepsSetup (s := { s with pending := false }) h
    · cases h; exact keepsSetup_of_eq rfl rfl
  · cases h
  · by_cases hop : ∃ i, op = .send i
    · obtain ⟨i, rfl⟩ := hop
      exact exec_keepsSetup (s := s.plan rest) h
    · have k := runOp_keeps (fun i e => absurd ⟨i, e⟩ hop) h
      exact keepsSetup_of_eq k.params k.cfg

theorem hostAccess_keepsSetup (agent : Agent) (x : Access) (s : State) : KeepsSetup s (hostAccess agent x s) := by
  obtain ⟨r, ⟨rf, -, e⟩ | ⟨o, v, e⟩ | ⟨a, v, -, e⟩⟩ := hostAccess_cases agent x s <;> rw [e]
  · exact keepsSetup_of_eq rfl rfl
  · obtain ⟨hf, -, ⟨-, e⟩ | ⟨g, e⟩⟩ := writeReg_cases s agent o v <;> rw [e] <;> exact keepsSetup_of_eq rfl rfl
  · exact keepsSetup_of_eq rfl rfl

/-- Settles O15: block steps and host accesses keep both, and a reset keeps the parameters. -/
theorem configurationImmutable : Obligations.ConfigurationImmutable := by
  intro s t h
  obtain ⟨rest, hblock⟩ | ⟨agent, x, rest, rfl⟩ | ⟨calls, rest, hh, rfl⟩ := step_cases h
  · obtain ⟨hp, hc⟩ := blockStep_keepsSetup hblock
    exact ⟨hp, fun c e => .inl (hc c e)⟩
  · obtain ⟨hp, hc⟩ := hostAccess_keepsSetup agent x { s with host := rest }
    exact ⟨hp, fun c e => .inl (hc c e)⟩
  · exact ⟨rfl, fun _ _ => .inr ⟨calls, rest, hh⟩⟩

/-! ### STATUS and TIMING -/

/-- The parts of a word put together from STATUS's field widths. -/
theorem statusFields_extract (z : BitVec 14) (size : BitVec 2) (result : BitVec 4) (rsv : BitVec 3) (mode : BitVec 2)
    (prev configured busy : BitVec 1) (code : BitVec 4) :
    let w := z ++ size ++ result ++ rsv ++ mode ++ prev ++ configured ++ busy ++ code
    w.extractLsb' 0 4 = code ∧ w.getLsbD 4 = busy.getLsbD 0 ∧ w.getLsbD 5 = configured.getLsbD 0
      ∧ w.getLsbD 6 = prev.getLsbD 0 ∧ w.extractLsb' 7 2 = mode ∧ w.extractLsb' 9 3 = rsv
      ∧ w.extractLsb' 12 4 = result ∧ w.extractLsb' 16 2 = size ∧ w.extractLsb' 18 14 = z := by
  refine ⟨?_, ?_, ?_, ?_, ?_, ?_, ?_, ?_, ?_⟩
  case refine_2 | refine_3 | refine_4 => simp [BitVec.getElem_append, -Nat.reduceAdd]
  all_goals
    simp [BitVec.extractLsb'_append_eq_ite, -Nat.reduceAdd]

/-- STATUS holds each field at its bits (10_state.md R31). -/
theorem status_extract (s : State) :
    s.status.extractLsb' 0 4 = s.fsm.code ∧ s.status.getLsbD 4 = s.busy ∧ s.status.getLsbD 5 = s.cfg.isSome
      ∧ s.status.getLsbD 6 = s.prevValid ∧ s.status.extractLsb' 7 2 = s.budget.mode ∧ s.status.extractLsb' 9 3 = 0
      ∧ s.status.extractLsb' 12 4 = s.lastResult.code ∧ s.status.extractLsb' 16 2 = s.cfgSize
      ∧ s.status.extractLsb' 18 14 = 0 := by
  have flag : ∀ b, (flagBit b).getLsbD 0 = b := by decide
  obtain ⟨hcode, hbusy, hcfg, hprev, hrest⟩ := statusFields_extract 0 s.cfgSize s.lastResult.code 0 s.budget.mode
    (flagBit s.prevValid) (flagBit s.cfg.isSome) (flagBit s.busy) s.fsm.code
  exact ⟨hcode, hbusy.trans (flag _), hcfg.trans (flag _), hprev.trans (flag _), hrest⟩

theorem timing_toNat {s : State} {n : Nat} (hn : n < 2 ^ 31) (h : s.budget = .fixed n ∨ s.budget = .timeMs n) :
    s.timing.toNat = n := by
  have e : s.timing = BitVec.ofNat 32 n := by obtain h | h := h <;> simp [State.timing, h]
  rw [e, BitVec.toNat_ofNat]
  omega

/-- Settles O47. -/
theorem statusAndTimingFields : Obligations.StatusAndTimingFields := by
  refine ⟨fun s => ?_, by decide, by decide, by decide, by decide⟩
  obtain ⟨hcode, hbusy, hcfg, hprev, hmode, hrsv, hresult, hsize, htop⟩ := status_extract s
  refine ⟨hcode, hbusy, hcfg, hprev, ?_, hrsv, hresult, ?_, htop, fun h => by simp [State.timing, h],
    fun n hn h => timing_toNat hn h⟩
  · rw [hmode]
    cases s.budget <;> rfl
  · rw [hsize, State.cfgSize]
    cases s.cfg with
    | none => rfl
    | some c => cases hz : c.size <;> simp [PanelSize.code, hz]

/-! ### The register window -/

theorem placeOf_reg (p : Params) {o : Nat} (ho : o < 0x20) : placeOf p (p.blockBase + o) = .reg o := by
  simp [placeOf, placeAt, ho]

/-- An aligned 32-bit read in the register window answers the register's value (20_memory.md R68). -/
theorem hostAccess_read32_reg (agent : Agent) (s : State) {o : Nat} (ho : o < 0x20) (ha : o % 4 = 0) :
    hostAccess agent (.read32 (s.params.blockBase + o)) s = s.respond (.word (s.readReg o)) := by
  simp [hostAccess, placeOf_reg s.params ho, ha]

theorem hostAccess_write32_reg (agent : Agent) (s : State) {o : Nat} (v : Word32) (ho : o < 0x20) (ha : o % 4 = 0) :
    hostAccess agent (.write32 (s.params.blockBase + o) v) s = (s.writeReg agent o v).respond .accepted := by
  simp [hostAccess, placeOf_reg s.params ho, ha]

theorem step_access {s : State} {agent : Agent} {x : Access} {rest : List HostAction}
    (h : s.host = .access agent x :: rest) : step s = .next (hostAccess agent x { s with host := rest }) := by
  simp [step, advance, h]

theorem step_wait {s : State} {rest : List HostAction} (h : s.host = .wait :: rest) :
    step s = .next (waitTurn rest s) := by
  simp [step, advance, h]

/-- One read of a register is one step that changes nothing but the record of answers. -/
theorem step_read32_reg {s : State} {agent : Agent} {o : Nat} {rest : List HostAction} (ho : o < 0x20)
    (ha : o % 4 = 0) (h : s.host = .access agent (.read32 (s.params.blockBase + o)) :: rest) :
    step s = .next { s with host := rest, responsesRev := .word (s.readReg o) :: s.responsesRev } := by
  rw [step_access h]
  exact congrArg _ (hostAccess_read32_reg agent { s with host := rest } ho ha)

/-- A write outside CMD stores a staging register, or nothing (10_state.md R27 to R30). -/
theorem writeReg_staging (s : State) (agent : Agent) {o : Nat} (v : Word32) (ho : o ≠ regCmd) :
    s.writeReg agent o v =
      { s with
        staging :=
          if o = regArg then { s.staging with arg := v }
          else if o = regCfg0 then { s.staging with cfg0 := v }
          else if o = regCfg1 then { s.staging with cfg1 := v &&& 0x0003FFFF }
          else s.staging } := by
  rw [State.writeReg, if_neg ho]
  repeat' split
  all_goals rfl

/-- Settles O42: a read by `step_read32_reg`, a turn of `wait` by `waitTurn_eq`, and `result` as a read of STATUS. -/
theorem registerReads : Obligations.RegisterReads := by
  intro s agent rest
  obtain ⟨-, hbusy, -, -, -, -, hresult, -, -⟩ := status_extract s
  refine ⟨fun o ho ha h => step_read32_reg ho ha h, fun h hb => ?_, fun h hb => ?_, fun h => ?_⟩
  · rw [step_wait h, waitTurn_eq, hbusy.symm.trans hb]
    rfl
  · rw [step_wait h, waitTurn_eq, hbusy.symm.trans hb]
    rfl
  · refine ⟨_, step_read32_reg (o := regStatus) (by decide) (by decide) h, ?_, rfl⟩
    exact congrArg some hresult

/-- Settles O43. -/
theorem registerWrites : Obligations.RegisterWrites := by
  intro s agent o v rest ho ha hne h
  rw [step_access h]
  exact congrArg _ <| (hostAccess_write32_reg agent { s with host := rest } v ho ha).trans <|
    congrArg (State.respond · .accepted) (writeReg_staging { s with host := rest } agent v hne)

end Sys2Proof.Machine
end

section
/-! Runs of the block cut into phases, in each of which the sequencer's state stays the same: what a phase logs and takes
from the peer, and the phases of single steps and of steps in a row that choose nothing. -/

namespace Sys2Proof.Machine

/-! ### Levels the peer answers -/

theorem nextLevel_eq_levelAt (p : Peer) : p.nextLevel = p.levelAt 0 := by
  unfold Peer.nextLevel Peer.levelAt
  cases p.levels <;> simp

@[simp] theorem levelAt_tookByte (p : Peer) (k : Nat) : p.tookByte.levelAt k = p.levelAt k := by
  unfold Peer.tookByte; split <;> rfl

theorem levelAt_tookBytes (p : Peer) (n k : Nat) : (p.tookBytes n).levelAt k = p.levelAt k := by
  induction n generalizing p with
  | zero => rfl
  | succ n ih => rw [Peer.tookBytes, ih, levelAt_tookByte]

theorem levelAt_tookLevel (p : Peer) (k : Nat) : p.tookLevel.levelAt k = p.levelAt (k + 1) := by
  unfold Peer.tookLevel Peer.levelAt
  cases p.levels <;> simp [Nat.add_assoc, Nat.add_comm 1 k]

/-! ### The block's part of the log -/

theorem exchangeLog_out (p : Peer) (k : Nat) (bytes : List Byte) :
    (exchangeLog p k bytes).map Event.out = bytes.map .sent := by
  induction bytes generalizing k with
  | nil => rfl
  | cons b bytes ih => simp [exchangeLog, Event.out, ih]

theorem outLog_sendFrame (s : State) (cs : PinId) (bytes : List Byte) :
    (s.sendFrame cs bytes).outLog = s.outLog ++ frameOut s.params cs bytes := by
  simp [State.outLog, sendFrame_log, frameLog, frameOut, exchangeLog_out, Event.out]

/-! ### Phases of a run -/

/-- Nothing changes but the sequencer's own part of the state, the pins, the log and the peer. -/
abbrev OnlySequencer (s t : State) : Prop :=
  t = { s with
    fsm := t.fsm, session := t.session, work := t.work, todo := t.todo, pins := t.pins, logRev := t.logRev,
    peer := t.peer }

/-- From `s` the block runs `n` steps to `t`, in the sequencer state `f` before each of them: `out` is logged, `nb` bytes
and `nl` levels are taken from the peer, and nothing else changes. -/
structure Phase (f : Fsm) (s t : State) (n : Nat) (out : List OutEvent) (nb nl : Nat) : Prop where
  runs : run n s = .next t
  stays : ∀ j < n, ∃ u, run j s = .next u ∧ u.fsm = f
  log : t.outLog = s.outLog ++ out
  bytes : ∀ k, t.peer.byteAt k = s.peer.byteAt (k + nb)
  levels : ∀ k, t.peer.levelAt k = s.peer.levelAt (k + nl)
  frame : OnlySequencer s t

/-- The block runs a command by itself and stands before the steps `ops`, in the sequencer state `f` with the working
registers `w`. -/
structure State.Stands (s : State) (p : Params) (c : DriverConfig) (f : Fsm) (ops : List Op) (w : Work) : Prop where
  runs : s.blockRuns
  params : s.params = p
  cfg : s.cfg = some c
  fsm : s.fsm = f
  todo : s.todo = ops
  work : s.work = w

section
variable {f : Fsm} {s t u : State} {n m nb nl nb' nl' : Nat} {out out' : List OutEvent}

theorem Phase.refl (f : Fsm) (s : State) : Phase f s s 0 [] 0 0 where
  runs := rfl
  stays := nofun
  log := by simp
  bytes := fun _ => rfl
  levels := fun _ => rfl
  frame := rfl

theorem Phase.trans (h : Phase f s t n out nb nl) (h' : Phase f t u m out' nb' nl') :
    Phase f s u (n + m) (out ++ out') (nb + nb') (nl + nl') where
  runs := (run_add h.runs m).trans h'.runs
  stays := fun j hj => by
    by_cases hn : j < n
    · exact h.stays j hn
    · obtain ⟨v, hv, hf⟩ := h'.stays (j - n) (by omega)
      refine ⟨v, ?_, hf⟩
      rw [← hv, ← run_add h.runs (j - n), Nat.add_sub_cancel' (by omega)]
  log := by rw [h'.log, h.log, List.append_assoc]
  bytes := fun k => by rw [h'.bytes, h.bytes]; congr 1; omega
  levels := fun k => by rw [h'.levels, h.levels]; congr 1; omega
  frame := by rw [h'.frame, h.frame]

theorem Phase.of_eq (h : Phase f s t n out nb nl) (ho : out = out') (hb : nb = nb') (hl : nl = nl') :
    Phase f s t n out' nb' nl' := by
  subst ho hb hl; exact h

/-- After a phase the block still runs by itself, under the same parameters and configuration. -/
theorem Phase.stands {p : Params} {c : DriverConfig} {ops ops' : List Op} {w w' : Work} {g : Fsm}
    (h : Phase f s t n out nb nl) (hs : s.Stands p c f ops w) (hf : t.fsm = g) (ht : t.todo = ops') (hw : t.work = w') :
    t.Stands p c g ops' w' where
  runs := by rw [h.frame]; exact hs.runs
  params := by rw [h.frame]; exact hs.params
  cfg := by rw [h.frame]; exact hs.cfg
  fsm := hf
  todo := ht
  work := hw

/-- The phase in a longer run: at every step inside it the sequencer's state is that of the phase. -/
theorem Phase.within {s₀ : State} {r j : Nat} (h : Phase f s t n out nb nl) (h₀ : run r s₀ = .next s) (hr : r ≤ j)
    (hj : j < r + n) : ∃ v, run j s₀ = .next v ∧ v.fsm = f := by
  obtain ⟨v, hv, hf⟩ := h.stays (j - r) (by omega)
  refine ⟨v, ?_, hf⟩
  rw [← hv, ← run_add h₀ (j - r), Nat.add_sub_cancel' hr]

end

/-! ### Phases of one step -/

section
variable {s t : State} {p : Params} {c : DriverConfig} {f : Fsm} {op : Op} {rest : List Op} {w : Work}

theorem State.Stands.step_eq (hs : s.Stands p c f (op :: rest) w) : step s = runOp op rest (s.plan rest) := by
  obtain ⟨hh, hb, hp⟩ := hs.runs
  rw [step_of_no_host hh]
  simp [blockStep, hb, hp, hs.todo]

theorem Phase.one {out : List OutEvent} {nb nl : Nat} (hf : s.fsm = f) (h : step s = .next t)
    (log : t.outLog = s.outLog ++ out) (bytes : ∀ k, t.peer.byteAt k = s.peer.byteAt (k + nb))
    (levels : ∀ k, t.peer.levelAt k = s.peer.levelAt (k + nl))
    (frame : OnlySequencer s t) : Phase f s t 1 out nb nl where
  runs := run_succ_of_next h 0
  stays := fun j hj => ⟨s, by rw [Nat.lt_one_iff.mp hj]; rfl, hf⟩
  log := log
  bytes := bytes
  levels := levels
  frame := frame

/-- A step that changes only the sequencer's state, plan and working registers: nothing is logged, the peer is not
asked. -/
theorem phase_plan {f g : Fsm} {ops ops' : List Op} {w w' : Work} (hs : s.Stands p c f ops w)
    (h : step s = .next { s with fsm := g, todo := ops', work := w' }) :
    ∃ t, Phase f s t 1 [] 0 0 ∧ t.Stands p c g ops' w' := by
  have h := Phase.one (out := []) (nb := 0) (nl := 0) hs.fsm h (by simp [State.outLog, State.log]) (fun _ => rfl)
    (fun _ => rfl) rfl
  exact ⟨_, h, h.stands hs rfl rfl rfl⟩

theorem phase_enter {g : Fsm} (hs : s.Stands p c f (.enter g :: rest) w) :
    ∃ t, Phase f s t 1 [] 0 0 ∧ t.Stands p c g rest w := by
  refine phase_plan hs ?_
  rw [hs.step_eq, ← hs.work]
  rfl

/-- A COG frame sent as a step of the sequencer. -/
theorem phase_send {i : Instr} (hi : i.isFrame = true) (hs : s.Stands p c f (.send i :: rest) w) :
    ∃ t, Phase f s t 1 (frameOut p c.cs (frameBytes p.headers i)) (frameBytes p.headers i).length 0
      ∧ t.Stands p c f rest (workAfter (s.peer.byteAt ((frameBytes p.headers i).length - 1)) w i) := by
  have h := hs.step_eq.trans (exec_frame_configured (s := s.plan rest) hi hs.cfg)
  have hlog := outLog_sendFrame (s.plan rest) c.cs (frameBytes s.params.headers i)
  have hpeer := sendFrame_peer (s.plan rest) c.cs (frameBytes s.params.headers i)
  have hframe := sendFrame_frame (s.plan rest) c.cs (frameBytes s.params.headers i)
  rw [State.plan_params] at h hlog
  rw [hs.params] at h hlog hpeer hframe
  generalize (s.plan rest).sendFrame c.cs (frameBytes p.headers i) = u at h hlog hpeer hframe
  have hphase : Phase f s _ 1 _ _ 0 := .one hs.fsm h hlog
    (fun k => (congrArg (Peer.byteAt · k) hpeer).trans (byteAt_tookBytes _ _ k))
    (fun k => (congrArg (Peer.levelAt · k) hpeer).trans (levelAt_tookBytes _ _ k)) (by rw [hframe]; rfl)
  exact ⟨_, hphase, hphase.stands hs (by rw [hframe]; exact hs.fsm) (by rw [hframe]; rfl) (by rw [← hs.work]; rfl)⟩

end

/-! ### Runs of steps that choose nothing -/

/-- A step of the power-up that asks the peer nothing it keeps: a pin direction or level, a delay, the start of the session,
or a frame that only writes. -/
def Op.silent : Op → Bool
  | .pinDir _ _ | .pinWrite _ _ | .delay _ | .sessionBegin => true
  | .send (.cogIndex _) | .send (.cogData _) | .send (.cogBlock _) => true
  | _ => false

/-- What a silent step logs, with the chip-select pin `cs`. -/
def opOut (p : Params) (cs : PinId) : Op → List OutEvent
  | .pinDir q d => [.dir q d]
  | .pinWrite q l => [.set q l]
  | .delay ms => [.wait ms]
  | .sessionBegin => [.begin p.clockMode]
  | .send i => frameOut p cs (frameBytes p.headers i)
  | _ => []

/-- How many bytes a silent step exchanges. -/
def opBytes (p : Params) : Op → Nat
  | .send i => (frameBytes p.headers i).length
  | _ => 0

section
variable {p : Params} {c : DriverConfig} {f : Fsm} {rest : List Op} {w : Work}

theorem phase_silent {s : State} {op : Op} (hop : op.silent = true) (hs : s.Stands p c f (op :: rest) w) :
    ∃ t, Phase f s t 1 (opOut p c.cs op) (opBytes p op) 0 ∧ t.Stands p c f rest w := by
  have h := hs.step_eq
  cases op with
  | pinDir | pinWrite | delay | sessionBegin =>
    have hphase := Phase.one (nb := 0) (nl := 0) hs.fsm h (by simp [State.outLog, State.log]; rfl) (fun _ => rfl)
      (fun _ => rfl) rfl
    rw [← hs.params]
    exact ⟨_, hphase, hphase.stands (hs.params ▸ hs) hs.fsm rfl hs.work⟩
  | send i =>
    cases i with
    | cogIndex | cogData | cogBlock => exact phase_send rfl hs
    | _ => cases hop
  | _ => cases hop

/-- Silent steps, in a row. -/
theorem phase_silent_run {s : State} {ops : List Op} (hops : ∀ op ∈ ops, op.silent = true)
    (hs : s.Stands p c f (ops ++ rest) w) :
    ∃ t, Phase f s t ops.length (ops.flatMap (opOut p c.cs)) (ops.map (opBytes p)).sum 0 ∧ t.Stands p c f rest w := by
  induction ops generalizing s with
  | nil => exact ⟨s, .refl f s, hs⟩
  | cons op ops ih =>
    obtain ⟨t, h, ht⟩ := phase_silent (hops op List.mem_cons_self) hs
    obtain ⟨u, h', hu⟩ := ih (fun x hx => hops x (List.mem_cons_of_mem op hx)) ht
    refine ⟨u, ?_, hu⟩
    rw [List.length_cons, Nat.add_comm]
    exact h.trans h'

end

end Sys2Proof.Machine
end

section
/-! The phases of RESETTING, PROBING, CONFIGURING and CHARGING, and the states of a power-up in order (O60). -/

namespace Sys2Proof.Machine

/-! ### The programs of the power-up -/

theorem borderOps_forall {c : DriverConfig} {ops : PinId → List Op} {P : Op → Prop} (h : ∀ b, ∀ op ∈ ops b, P op) :
    ∀ op ∈ borderOps c ops, P op := by
  unfold borderOps
  split
  · exact h _
  · nofun

theorem borderOps_out (c : DriverConfig) (ops : PinId → List Op) (out : Op → List OutEvent) :
    (borderOps c ops).flatMap out = borderOut c fun b => (ops b).flatMap out := by
  unfold borderOps borderOut
  cases c.size <;> cases c.border <;> rfl

theorem regWrite_out (p : Params) (cs : PinId) (reg v : Byte) :
    (regWrite reg v).flatMap (opOut p cs) = regWriteOut p cs reg v := by
  simp [regWrite, opOut, regWriteOut, frameBytes, encode]

/-- RESETTING up to its busy wait. -/
def resettingSilent (p : Params) (c : DriverConfig) : List Op := directionOps c ++ idleLevelOps p c ++ resetPulseOps c

theorem resettingSilent_silent (p : Params) (c : DriverConfig) :
    ∀ op ∈ resettingSilent p c, op.silent = true ∧ opBytes p op = 0 := by
  simp only [resettingSilent, directionOps, idleLevelOps, resetPulseOps, List.forall_mem_append]
  refine ⟨⟨⟨⟨?_, borderOps_forall ?_⟩, ?_⟩, ⟨?_, borderOps_forall ?_⟩⟩, ?_⟩ <;> simp [Op.silent, opBytes]

theorem resettingSilent_out (p : Params) (c : DriverConfig) :
    (resettingSilent p c).flatMap (opOut p c.cs) = resettingLog p c := by
  simp [resettingSilent, directionOps, idleLevelOps, resetPulseOps, borderOps_out, opOut, resettingLog]

/-- CONFIGURING up to its status read (42_power_sequencer.md R213). -/
def configuringBefore (p : Params) : List Op := regWrite p.regs.oe p.values.oeDisable ++ [.send (.cogIndex p.regs.status)]

/-- CONFIGURING after its panel check (R214). -/
def configuringAfter (p : Params) (c : DriverConfig) : List Op :=
  regWrite p.regs.powerSaving p.values.powerSaving
  ++ regWriteBlock p.regs.channelSelect (p.chanSel.get c.size)
  ++ regWrite p.regs.osc p.values.oscOn ++ regWrite p.regs.power p.values.power ++ regWrite p.regs.vcom p.values.vcom
  ++ regWrite p.regs.latch p.values.latchOn ++ regWrite p.regs.latch p.values.latchOff
  ++ [.delay 5]

theorem configuringOps_eq (p : Params) (c : DriverConfig) (rest : List Op) :
    configuringOps p c ++ rest =
      configuringBefore p ++ .send .cogRead :: .checkPanel :: (configuringAfter p c ++ .enter .charging :: rest) := by
  simp [configuringOps, configuringBefore, configuringAfter, regRead]

theorem configuringBefore_silent (p : Params) : ∀ op ∈ configuringBefore p, op.silent = true := by
  simp [configuringBefore, regWrite, Op.silent]

theorem configuringAfter_silent (p : Params) (c : DriverConfig) : ∀ op ∈ configuringAfter p c, op.silent = true := by
  simp [configuringAfter, regWrite, regWriteBlock, Op.silent]

theorem configuringAfter_out (p : Params) (c : DriverConfig) :
    (configuringAfter p c).flatMap (opOut p c.cs) = configuringLog p c := by
  simp only [configuringAfter, List.flatMap_append, regWrite_out]
  simp [regWriteBlock, opOut, frameBytes, encode, configuringLog]

/-- After its check CONFIGURING exchanges 35 bytes: five registers written and the table of 8 bytes. -/
theorem configuringAfter_bytes (p : Params) (c : DriverConfig) (h : (p.chanSel.get c.size).length = 8) :
    ((configuringAfter p c).map (opBytes p)).sum = 35 := by
  simp [configuringAfter, regWrite, regWriteBlock, opBytes, frameBytes, encode, h]

/-- A charge-pump attempt up to its status read (R215). -/
def chargeBefore (p : Params) : List Op :=
  regWrite p.regs.chargePump p.values.cpPos ++ [.delay 150]
  ++ regWrite p.regs.chargePump p.values.cpNeg ++ [.delay 90]
  ++ regWrite p.regs.chargePump p.values.cpVcom ++ [.delay 40]
  ++ [.send (.cogIndex p.regs.status)]

theorem chargeAttemptOps_eq (p : Params) (rest : List Op) :
    chargeAttemptOps p ++ rest = chargeBefore p ++ .send .cogRead :: .checkDc :: rest := by
  simp [chargeAttemptOps, chargeBefore, regRead]

theorem chargeBefore_silent (p : Params) : ∀ op ∈ chargeBefore p, op.silent = true := by
  simp [chargeBefore, regWrite, Op.silent]

theorem chargeBefore_bytes (p : Params) : ((chargeBefore p).map (opBytes p)).sum = 14 := by
  simp [chargeBefore, regWrite, opBytes, frameBytes, encode]

theorem chargeBefore_out (p : Params) (c : DriverConfig) :
    (chargeBefore p).flatMap (opOut p c.cs) ++ frameOut p c.cs [p.headers.read, p.headers.dummy]
      = chargeAttemptLog p c := by
  simp only [chargeBefore, List.flatMap_append, regWrite_out]
  simp [opOut, frameBytes, encode, chargeAttemptLog, statusReadLog]

theorem repeatLog_succ (n : Nat) (l : List OutEvent) : repeatLog (n + 1) l = l ++ repeatLog n l := by
  simp [repeatLog, List.replicate_succ]

/-! ### The phases of the power-up -/

section
variable {p : Params} {c : DriverConfig} {f : Fsm} {rest : List Op} {w : Work} {s : State}

/-- One read of the busy pin, whatever is planned after it. -/
theorem phase_poll {ops : List Op} (hs : s.Stands p c f (.busyPoll :: rest) w)
    (h : runBusyPoll c rest (s.plan rest) = ((s.plan rest).pinRead c.busy).plan ops) :
    ∃ t, Phase f s t 1 [.get c.busy] 0 1 ∧ t.Stands p c f ops w := by
  have hstep : step s = .next (((s.plan rest).pinRead c.busy).plan ops) := by
    rw [hs.step_eq, ← h]
    exact withConfig_some hs.cfg _
  have hphase := Phase.one (out := [.get c.busy]) (nb := 0) (nl := 1) hs.fsm hstep
    (by simp [State.outLog, State.log, Event.out]) (byteAt_tookLevel s.peer) (levelAt_tookLevel s.peer) rfl
  exact ⟨_, hphase, hphase.stands hs hs.fsm rfl hs.work⟩

/-- The busy wait: the pin reads active `polls` times and then not (42_power_sequencer.md R207). -/
theorem phase_busyWait {polls : Nat} (hs : s.Stands p c f (.busyPoll :: rest) w)
    (hbusy : ∀ k < polls, s.peer.levelAt k = p.busyActive) (hready : s.peer.levelAt polls ≠ p.busyActive) :
    ∃ n t, Phase f s t n (repeatLog polls [.get c.busy, .wait 1] ++ [.get c.busy]) 0 (polls + 1)
      ∧ t.Stands p c f rest w := by
  induction polls generalizing s with
  | zero =>
    have hready : (s.plan rest).peer.nextLevel ≠ (s.plan rest).params.busyActive := by
      rw [nextLevel_eq_levelAt, State.plan_params, hs.params]; exact hready
    obtain ⟨t, h, ht⟩ := phase_poll hs (if_neg hready)
    exact ⟨1, t, h, ht⟩
  | succ polls ih =>
    have hactive : (s.plan rest).peer.nextLevel = (s.plan rest).params.busyActive := by
      rw [nextLevel_eq_levelAt, State.plan_params, hs.params]; exact hbusy 0 (Nat.succ_pos _)
    obtain ⟨t, h, ht⟩ := phase_poll hs (if_pos hactive)
    obtain ⟨u, h', hu⟩ := phase_silent rfl ht
    obtain ⟨n, v, h'', hv⟩ := ih hu
      (fun k hk => by rw [h'.levels, h.levels]; exact hbusy (k + 1) (by omega)) (by rw [h'.levels, h.levels]; exact hready)
    refine ⟨1 + 1 + n, v, ?_, hv⟩
    have htotal := (h.trans h').trans h''
    exact htotal.of_eq (by rw [repeatLog_succ]; simp [opOut]) (by simp [opBytes]) (by omega)

/-- RESETTING (R204 to R207). -/
theorem phase_resetting {polls : Nat} (hs : s.Stands p c f (resettingOps p c ++ rest) w)
    (hbusy : ∀ k < polls, s.peer.levelAt k = p.busyActive) (hready : s.peer.levelAt polls ≠ p.busyActive) :
    ∃ n t, Phase f s t n (resettingWholeLog p c polls) 0 (polls + 1) ∧ t.Stands p c .probing rest w ∧ 0 < n := by
  have hs : s.Stands p c f (resettingSilent p c ++ .busyPoll :: .enter .probing :: rest) w := by
    simpa [resettingOps, resettingSilent] using hs
  obtain ⟨t, h, ht⟩ := phase_silent_run (fun op hop => (resettingSilent_silent p c op hop).1) hs
  have hbytes : ((resettingSilent p c).map (opBytes p)).sum = 0 :=
    List.sum_eq_zero (by simpa using fun op hop => (resettingSilent_silent p c op hop).2)
  rw [resettingSilent_out, hbytes] at h
  obtain ⟨n, u, h', hu⟩ := phase_busyWait ht (fun k hk => by rw [h.levels]; exact hbusy k hk)
    (by rw [h.levels]; exact hready)
  obtain ⟨v, h'', hv⟩ := phase_enter hu
  exact ⟨_, v, ((h.trans h').trans h'').of_eq (by simp [resettingWholeLog]) rfl (by omega), hv, Nat.succ_pos _⟩

/-- A check that passes changes nothing but the plan. -/
theorem phase_check {op : Op} (hs : s.Stands p c f (op :: rest) w)
    (h : runOp op rest (s.plan rest) = .next ((s.plan rest).plan rest)) :
    ∃ t, Phase f s t 1 [] 0 0 ∧ t.Stands p c f rest w := by
  refine phase_plan hs ?_
  rw [hs.step_eq, h, ← hs.fsm, ← hs.work]
  rfl

/-- PROBING with the accepted chip id (R211, R212). -/
theorem phase_probing (hs : s.Stands p c f (probingOps ++ rest) w) (hid : s.peer.byteAt 1 = 0x12) :
    ∃ n t w', Phase f s t n (probingLog p c) 2 0 ∧ t.Stands p c .configuring rest w' ∧ 0 < n := by
  obtain ⟨t, h, ht⟩ := phase_send rfl hs
  have hpass : t.work.chipId = acceptedChipId := by rw [ht.work]; exact hid
  obtain ⟨u, h', hu⟩ := phase_check ht ((withConfig_some ht.cfg _).trans (congrArg _ (if_pos hpass)))
  obtain ⟨v, h'', hv⟩ := phase_enter hu
  exact ⟨_, v, _, ((h.trans h').trans h'').of_eq (by simp [probingLog, frameBytes, encode]) rfl rfl, hv, Nat.succ_pos _⟩

/-- CONFIGURING with the panel bit set (R213, R214). -/
theorem phase_configuring (hs : s.Stands p c f (configuringOps p c ++ rest) w) (hlen : (p.chanSel.get c.size).length = 8)
    (hpanel : s.peer.byteAt 7 &&& p.values.maskPanelOk ≠ 0) :
    ∃ n t w', Phase f s t n (configuringWholeLog p c) 43 0 ∧ t.Stands p c .charging rest w' ∧ 0 < n := by
  rw [configuringOps_eq] at hs
  obtain ⟨t, h, ht⟩ := phase_silent_run (configuringBefore_silent p) hs
  obtain ⟨u, h', hu⟩ := phase_send rfl ht
  have hpass : ¬ u.work.statusByte &&& u.params.values.maskPanelOk = 0 := by
    have hstatus : u.work.statusByte = s.peer.byteAt 7 := by rw [hu.work]; exact h.bytes 1
    rwa [hstatus, hu.params]
  obtain ⟨v, h'', hv⟩ := phase_check hu ((withConfig_some hu.cfg _).trans (congrArg _ (if_neg hpass)))
  obtain ⟨x, h₃, hx⟩ := phase_silent_run (configuringAfter_silent p c) hv
  rw [configuringAfter_out, configuringAfter_bytes p c hlen] at h₃
  obtain ⟨y, h₄, hy⟩ := phase_enter hx
  refine ⟨_, y, _, ((((h.trans h').trans h'').trans h₃).trans h₄).of_eq ?_ ?_ rfl, hy, Nat.succ_pos _⟩
  · simp [configuringWholeLog, configuringBefore, regWrite_out, opOut, frameBytes, encode, statusReadLog]
  · simp [configuringBefore, regWrite, opBytes, frameBytes, encode]

/-- One charge-pump attempt up to its check: the status byte is the 16th byte it exchanges (R215). -/
theorem phase_attempt (hs : s.Stands p c f (chargeAttemptOps p ++ rest) w) :
    ∃ n t, Phase f s t n (chargeAttemptLog p c) 16 0
      ∧ t.Stands p c f (.checkDc :: rest) { w with statusByte := s.peer.byteAt 15 } := by
  rw [chargeAttemptOps_eq] at hs
  obtain ⟨t, h, ht⟩ := phase_silent_run (chargeBefore_silent p) hs
  rw [chargeBefore_bytes] at h
  obtain ⟨u, h', hu⟩ := phase_send rfl ht
  rw [h.bytes] at hu
  exact ⟨_, u, (h.trans h').of_eq (chargeBefore_out p c) rfl rfl, hu⟩

/-- Charge-pump attempts from the current one on, of which the first `failed` fail and the next succeeds (R215 to R217). -/
theorem phase_attempts {failed : Nat} (hs : s.Stands p c f (chargeAttemptOps p ++ rest) w)
    (hfew : w.attempt + failed ≤ 4)
    (hfail : ∀ i < failed, s.peer.byteAt (attemptByte i) &&& p.values.maskDcOk = 0)
    (hdone : s.peer.byteAt (attemptByte failed) &&& p.values.maskDcOk ≠ 0) :
    ∃ n t w', Phase f s t n (repeatLog (failed + 1) (chargeAttemptLog p c)) (16 * (failed + 1)) 0
      ∧ t.Stands p c f rest w' := by
  induction failed generalizing s w with
  | zero =>
    obtain ⟨n, t, h, ht⟩ := phase_attempt hs
    have hpass : t.work.statusByte &&& t.params.values.maskDcOk ≠ 0 := by rw [ht.work, ht.params]; exact hdone
    obtain ⟨u, h', hu⟩ := phase_check ht ((withConfig_some ht.cfg _).trans (congrArg _ (if_pos hpass)))
    exact ⟨_, u, _, (h.trans h').of_eq (by simp [repeatLog]) rfl rfl, hu⟩
  | succ failed ih =>
    obtain ⟨n, t, h, ht⟩ := phase_attempt hs
    have hstep : step t = .next
        { t with
          fsm := f
          todo := chargeAttemptOps p ++ rest
          work := { w with statusByte := s.peer.byteAt 15, attempt := w.attempt + 1 } } := by
      have hbad : t.work.statusByte &&& t.params.values.maskDcOk = 0 := by rw [ht.work, ht.params]; exact hfail 0 (Nat.succ_pos _)
      have hleft : t.work.attempt < 4 := by rw [ht.work]; change w.attempt < 4; omega
      rw [ht.step_eq]
      refine (withConfig_some ht.cfg _).trans (congrArg _ ?_)
      have hwork : { w with statusByte := s.peer.byteAt 15, attempt := w.attempt + 1 }
          = { t.work with attempt := t.work.attempt + 1 } := by rw [ht.work]
      rw [← ht.params, ← ht.fsm, hwork]
      exact (if_neg (not_not.mpr hbad)).trans (if_pos hleft)
    obtain ⟨u, h', hu⟩ := phase_plan ht hstep
    have next : ∀ i, u.peer.byteAt (attemptByte i) = s.peer.byteAt (attemptByte (i + 1)) := fun i => by
      rw [h'.bytes, h.bytes]; congr 1
    obtain ⟨m, v, w', h'', hv⟩ := ih hu (by change w.attempt + 1 + failed ≤ 4; omega)
      (fun i hi => by rw [next]; exact hfail (i + 1) (by omega)) (by rw [next]; exact hdone)
    refine ⟨_, v, w', ((h.trans h').trans h'').of_eq ?_ (by omega) rfl, hv⟩
    rw [List.append_nil, ← repeatLog_succ]

/-- CHARGING and the entry to READY (R215, R216). -/
theorem phase_charging {failed : Nat} (hs : s.Stands p c f (.chargeStart :: (readyOps p ++ rest)) w) (hfew : failed < 4)
    (hfail : ∀ i < failed, s.peer.byteAt (attemptByte i) &&& p.values.maskDcOk = 0)
    (hdone : s.peer.byteAt (attemptByte failed) &&& p.values.maskDcOk ≠ 0) :
    ∃ n t w' nb, Phase f s t n (chargingLog p c failed) nb 0 ∧ t.Stands p c .ready rest w' ∧ 0 < n := by
  have hstep : step s = .next
      { s with fsm := f, todo := chargeAttemptOps p ++ (readyOps p ++ rest), work := { w with attempt := 1 } } := by
    rw [hs.step_eq, ← hs.fsm, ← hs.work, ← hs.params]
    rfl
  obtain ⟨t, h, ht⟩ := phase_plan hs hstep
  obtain ⟨n, u, w', h', hu⟩ := phase_attempts ht (by change 1 + failed ≤ 4; omega)
    (fun i hi => by rw [h.bytes]; exact hfail i hi) (by rw [h.bytes]; exact hdone)
  rw [readyOps, List.append_assoc] at hu
  obtain ⟨v, h'', hv⟩ := phase_silent_run (by simp [regWrite, Op.silent]) hu
  obtain ⟨x, h₃, hx⟩ := phase_enter hv
  exact ⟨_, x, _, _, (((h.trans h').trans h'').trans h₃).of_eq (by simp [chargingLog, regWrite_out]) rfl rfl, hx,
    Nat.succ_pos _⟩

end

/-! ### The states in order -/

/-- A run answers one state. -/
theorem run_inj {s t u : State} {j k : Nat} (h : run j s = .next t) (h' : run k s = .next u) (e : j = k) : t = u := by
  subst e
  exact Host.Outcome.next.inj (h.symm.trans h')

/-- VALIDATING with all an update needs (R202, R203). -/
theorem runValidate_ready {s : State} {c : DriverConfig} (hc : s.cfg = some c) (hp : s.prevSource ≠ none)
    (hb : s.budget ≠ .unset) : runValidate s = (s.enter .resetting).plan (updateOps s.params c) := by
  obtain ⟨prev, hprev⟩ := Option.ne_none_iff_exists'.mp hp
  cases hbud : s.budget with
  | unset => exact absurd hbud hb
  | fixed n | timeMs n => simp only [runValidate, hc, hprev, hbud]

theorem phase_validating {s : State} {c : DriverConfig} (hr : s.blockRuns) (ht : s.todo = [.validate])
    (hf : s.fsm = .validating) (hc : s.cfg = some c) (hp : s.prevSource ≠ none) (hb : s.budget ≠ .unset) :
    ∃ t, Phase .validating s t 1 [] 0 0 ∧ t.Stands s.params c .resetting (updateOps s.params c) s.work := by
  have hs : s.Stands s.params c .validating [.validate] s.work := ⟨hr, rfl, hc, hf, ht, rfl⟩
  refine phase_plan hs ?_
  rw [hs.step_eq]
  exact congrArg _ (runValidate_ready (s := s.plan []) hc hp hb)

/-- Settles O60: the phases of VALIDATING to CHARGING one after the other; each ends where the next state is entered. -/
theorem powerUpStates : Obligations.PowerUpStates := by
  intro s c polls failed hr ht hf hc hp hb good hlen
  obtain ⟨s₁, h₁, st₁⟩ := phase_validating hr ht hf hc hp hb
  obtain ⟨n₂, s₂, h₂, st₂, pos₂⟩ := phase_resetting (polls := polls)
    (rest := probingOps ++ (configuringOps s.params c ++ .chargeStart :: (readyOps s.params ++ .renderStart ::
      (powerOffOps s.params c ++ [.commit, .complete .ok]))))
    (by simpa [updateOps] using st₁) (fun k hk => by rw [h₁.levels]; exact good.busy k hk)
    (by rw [h₁.levels]; exact good.ready)
  obtain ⟨n₃, s₃, w₃, h₃, st₃, pos₃⟩ := phase_probing st₂ (by rw [h₂.bytes, h₁.bytes]; exact good.chipId)
  obtain ⟨n₄, s₄, w₄, h₄, st₄, pos₄⟩ := phase_configuring st₃ hlen
    (by rw [h₃.bytes, h₂.bytes, h₁.bytes]; exact good.panel)
  have charge : ∀ i, s₄.peer.byteAt (attemptByte i) = s.peer.byteAt (45 + attemptByte i) := fun i => by
    rw [h₄.bytes, h₃.bytes, h₂.bytes, h₁.bytes]; congr 1; omega
  obtain ⟨n₅, s₅, w₅, nb, h₅, st₅, pos₅⟩ := phase_charging st₄ good.few
    (fun i hi => by rw [charge]; exact good.charging i hi) (by rw [charge]; exact good.charged)
  have to₂ := (run_add h₁.runs n₂).trans h₂.runs
  have to₃ := (run_add to₂ n₃).trans h₃.runs
  have to₄ := (run_add to₃ n₄).trans h₄.runs
  have to₅ := (run_add to₄ n₅).trans h₅.runs
  have log₁ : s₁.outLog = s.outLog := by rw [h₁.log, List.append_nil]
  have log₂ : s₂.outLog = s.outLog ++ resettingWholeLog s.params c polls := by rw [h₂.log, log₁]
  have log₃ : s₃.outLog = s.outLog ++ resettingWholeLog s.params c polls ++ probingLog s.params c := by rw [h₃.log, log₂]
  have log₄ : s₄.outLog = s.outLog ++ resettingWholeLog s.params c polls ++ probingLog s.params c
      ++ configuringWholeLog s.params c := by rw [h₄.log, log₃]
  have log₅ : s₅.outLog = s.outLog ++ powerUpLog s.params c polls failed := by
    rw [h₅.log, log₄, powerUpLog]
    simp only [List.append_assoc]
  refine ⟨1 + n₂, 1 + n₂ + n₃, 1 + n₂ + n₃ + n₄, 1 + n₂ + n₃ + n₄ + n₅, by omega, by omega, by omega, by omega,
    fun j hj => ?_⟩
  obtain ⟨t, hrun, hfsm⟩ : ∃ t, run j s = .next t ∧ t.fsm = (if j < 1 then .validating else if j < 1 + n₂ then .resetting
      else if j < 1 + n₂ + n₃ then .probing else if j < 1 + n₂ + n₃ + n₄ then .configuring
      else if j < 1 + n₂ + n₃ + n₄ + n₅ then .charging else .ready) := by
    split_ifs with hj₁ hj₂ hj₃ hj₄ hj₅
    · exact h₁.stays j hj₁
    · exact h₂.within h₁.runs (by omega) hj₂
    · exact h₃.within to₂ (by omega) hj₃
    · exact h₄.within to₃ (by omega) hj₄
    · exact h₅.within to₄ (by omega) hj₅
    · exact ⟨s₅, by rw [← to₅]; congr 1; omega, st₅.fsm⟩
  refine ⟨t, hrun, hfsm, fun e => ?_, fun e => ?_, fun e => ?_, fun e => ?_, fun e => ?_⟩
  · rw [run_inj hrun h₁.runs e, log₁]
  · rw [run_inj hrun to₂ e, log₂]
  · rw [run_inj hrun to₃ e, log₃]
  · rw [run_inj hrun to₄ e, log₄]
  · rw [run_inj hrun to₅ e]
    exact ⟨log₅, st₅.todo⟩

end Sys2Proof.Machine
end

section
/-! Proofs of the family 20_memory.md: the address map, refused accesses (O44), byte writes and reads of the buffers (O45,
O46), and what leaves PREV as it is (O55). -/

namespace Sys2Proof.Machine

/-! ### The address map -/

/-- Where an address can lie: in the register window, in the populated part of a buffer, or nowhere (20_memory.md R61). -/
theorem placeOf_cases (p : Params) (a : Nat) :
    (∃ o < 0x20, a = p.blockBase + o ∧ placeOf p a = .reg o) ∨
    (∃ i < 5808, a = p.blockBase + 0x10000 + i ∧ placeOf p a = .newByte i) ∨
    (∃ i < 5808, a = p.blockBase + 0x20000 + i ∧ placeOf p a = .ovrByte i) ∨
    (∃ i < 5808, a = p.blockBase + 0x30000 + i ∧ placeOf p a = .prevByte i) ∨
    placeOf p a = .nowhere := by
  unfold placeOf placeAt newBase ovrBase prevBase maxFrameBytes
  split_ifs with hbase hreg hnew hovr hprev
  · exact .inl ⟨_, hreg, by omega, rfl⟩
  · exact .inr (.inl ⟨_, by omega, by omega, rfl⟩)
  · exact .inr (.inr (.inl ⟨_, by omega, by omega, rfl⟩))
  · exact .inr (.inr (.inr (.inl ⟨_, by omega, by omega, rfl⟩)))
  · exact .inr (.inr (.inr (.inr rfl)))
  · exact .inr (.inr (.inr (.inr rfl)))

theorem placeOf_newByte (p : Params) {i : Nat} (hi : i < 5808) :
    placeOf p (p.blockBase + 0x10000 + i) = .newByte i := by
  unfold placeOf placeAt newBase maxFrameBytes
  rw [if_pos (by omega), if_neg (by omega), if_pos (by omega)]
  exact congrArg _ (by omega)

theorem placeOf_ovrByte (p : Params) {i : Nat} (hi : i < 5808) :
    placeOf p (p.blockBase + 0x20000 + i) = .ovrByte i := by
  unfold placeOf placeAt newBase ovrBase maxFrameBytes
  rw [if_pos (by omega), if_neg (by omega), if_neg (by omega), if_pos (by omega)]
  exact congrArg _ (by omega)

theorem placeOf_prevByte (p : Params) {i : Nat} (hi : i < 5808) :
    placeOf p (p.blockBase + 0x30000 + i) = .prevByte i := by
  unfold placeOf placeAt newBase ovrBase prevBase maxFrameBytes
  rw [if_pos (by omega), if_neg (by omega), if_neg (by omega), if_neg (by omega), if_pos (by omega)]
  exact congrArg _ (by omega)

/-! ### Refused accesses -/

/-- An aligned offset of the register window, as an address (20_memory.md R67). -/
def RegisterAddress (p : Params) (a : Nat) : Prop :=
  p.blockBase ≤ a ∧ a < p.blockBase + 0x20 ∧ (a - p.blockBase) % 4 = 0

/-- The populated part of the buffer at block offset `b`, as addresses (R61). -/
def InBuffer (p : Params) (b a : Nat) : Prop := p.blockBase + b ≤ a ∧ a < p.blockBase + b + 5808

theorem registerAddress_add (p : Params) {o : Nat} (ho : o < 0x20) (ha : o % 4 = 0) :
    RegisterAddress p (p.blockBase + o) := by
  unfold RegisterAddress; omega

theorem inBuffer_add (p : Params) (b : Nat) {i : Nat} (hi : i < 5808) : InBuffer p b (p.blockBase + b + i) := by
  unfold InBuffer; omega

/-- A 32-bit access outside the aligned offsets of the register window is refused, a read as a write. -/
theorem hostAccess_word_refused (agent : Agent) {s : State} {a : Nat} (h : ¬ RegisterAddress s.params a) :
    hostAccess agent (.read32 a) s = s.respond .busError
      ∧ ∀ v, hostAccess agent (.write32 a v) s = s.respond .busError := by
  obtain ⟨o, ho, rfl, e⟩ | ⟨i, -, -, e⟩ | ⟨i, -, -, e⟩ | ⟨i, -, -, e⟩ | e := placeOf_cases s.params a
  · have misaligned : o % 4 ≠ 0 := fun ha => h (registerAddress_add s.params ho ha)
    simp [hostAccess, e, misaligned]
  all_goals simp [hostAccess, e]

/-- An 8-bit write outside NEW and OVR is refused. -/
theorem hostAccess_write8_refused (agent : Agent) {s : State} {a : Nat} (v : Byte)
    (hnew : ¬ InBuffer s.params 0x10000 a) (hovr : ¬ InBuffer s.params 0x20000 a) :
    hostAccess agent (.write8 a v) s = s.respond .busError := by
  obtain ⟨o, -, -, e⟩ | ⟨i, hi, rfl, -⟩ | ⟨i, hi, rfl, -⟩ | ⟨i, -, -, e⟩ | e := placeOf_cases s.params a
  · simp [hostAccess, e]
  · exact absurd (inBuffer_add _ _ hi) hnew
  · exact absurd (inBuffer_add _ _ hi) hovr
  · simp [hostAccess, e]
  · simp [hostAccess, e]

/-- An 8-bit read outside the three buffers is refused. -/
theorem hostAccess_read8_refused (agent : Agent) {s : State} {a : Nat} (hnew : ¬ InBuffer s.params 0x10000 a)
    (hovr : ¬ InBuffer s.params 0x20000 a) (hprev : ¬ InBuffer s.params 0x30000 a) :
    hostAccess agent (.read8 a) s = s.respond .busError := by
  obtain ⟨o, -, -, e⟩ | ⟨i, hi, rfl, -⟩ | ⟨i, hi, rfl, -⟩ | ⟨i, hi, rfl, -⟩ | e := placeOf_cases s.params a
  · simp [hostAccess, e]
  · exact absurd (inBuffer_add _ _ hi) hnew
  · exact absurd (inBuffer_add _ _ hi) hovr
  · exact absurd (inBuffer_add _ _ hi) hprev
  · simp [hostAccess, e]

/-- Settles O44. -/
theorem refusedAccess : Obligations.RefusedAccess := by
  intro s agent a rest
  refine ⟨fun h hr => ?_, fun v h hr => ?_, fun h hnew hovr hprev => ?_, fun v h hnew hovr => ?_⟩
  all_goals rw [step_access h]
  · exact congrArg _ (hostAccess_word_refused agent (s := { s with host := rest }) hr).1
  · exact congrArg _ ((hostAccess_word_refused agent (s := { s with host := rest }) hr).2 v)
  · exact congrArg _ (hostAccess_read8_refused agent (s := { s with host := rest }) hnew hovr hprev)
  · exact congrArg _ (hostAccess_write8_refused agent (s := { s with host := rest }) v hnew hovr)

/-! ### Byte writes -/

/-- The word of FULL_UPDATE or PARTIAL_UPDATE, OVR set or not (30_encoding.md R91). -/
def IsUpdateWord (w : Word32) : Prop := w &&& 0xFFFEFFFF = 0x05000000 ∨ w &&& 0xFFFEFFFF = 0x06000000

/-- Of the rows of the command table, those of the updates hit the updates' words and no other row does. -/
theorem isUpdate_of_hits {row : HostRow} {w : Word32} (hrow : row ∈ hostRows) (hw : row.hits w = true) (ovr : Bool) :
    (row.instr ovr).isUpdate = true ↔ IsUpdateWord w := by
  have plain : ∀ {pattern : Word32}, w &&& 0xFFFFFFFF = pattern → w = pattern := fun h => by
    rw [← h]; exact (BitVec.and_allOnes (x := w)).symm
  unfold IsUpdateWord
  simp only [hostRows, List.mem_cons, List.not_mem_nil, or_false] at hrow
  obtain rfl | rfl | rfl | rfl | rfl | rfl := hrow <;> rw [HostRow.hits, beq_iff_eq] at hw
  case inr.inr.inr.inr.inl => exact iff_of_true rfl (.inl hw)
  case inr.inr.inr.inr.inr => exact iff_of_true rfl (.inr hw)
  all_goals
    refine iff_of_false nofun ?_
    rw [plain hw]
    decide

/-- The running command is an update iff a command runs and its word is an update's. -/
theorem updateRunning_iff (s : State) : s.updateRunning = true ↔ s.busy = true ∧ IsUpdateWord s.command := by
  rw [State.updateRunning, Bool.and_eq_true, decodeWord]
  refine and_congr_right fun _ => ?_
  cases hf : hostRows.find? (fun row => row.hits s.command) with
  | some row =>
    have hits : row.hits s.command = true := List.find?_some (p := fun row : HostRow => row.hits s.command) hf
    exact isUpdate_of_hits (List.mem_of_find?_eq_some hf) hits _
  | none =>
    have miss := List.find?_eq_none.mp hf
    refine iff_of_false nofun fun hu => ?_
    obtain hu | hu := hu
    · exact miss { mask := 0xFFFEFFFF, pattern := 0x05000000, instr := .fullUpdate } (by simp [hostRows])
        (beq_iff_eq.mpr hu)
    · exact miss { mask := 0xFFFEFFFF, pattern := 0x06000000, instr := .partialUpdate } (by simp [hostRows])
        (beq_iff_eq.mpr hu)

/-- A byte write to the populated part of NEW or OVR is taken (20_memory.md R65). -/
theorem hostAccess_write8 (agent : Agent) (s : State) {b i : Nat} (v : Byte) (hb : b = 0x10000 ∨ b = 0x20000)
    (hi : i < 5808) :
    hostAccess agent (.write8 (s.params.blockBase + b + i) v) s = (s.writeBuffer (b + i) v).respond .accepted := by
  obtain rfl | rfl := hb
  · simp only [hostAccess, placeOf_newByte s.params hi]; rfl
  · simp only [hostAccess, placeOf_ovrByte s.params hi]; rfl

/-- Settles O45: the write is `writeBuffer`, and `updateRunning_iff` says when it breaks the host's duty. -/
theorem bufferWrites : Obligations.BufferWrites := by
  intro s agent b i v rest hb hi h updating
  have running : s.updateRunning = true ↔ updating := updateRunning_iff s
  refine ⟨(({ s with host := rest } : State).writeBuffer (b + i) v).respond .accepted, ?_,
    memory_read_write_same s.mem (b + i) v, fun x hx => memory_read_write_other s.mem v hx,
    fun hu => if_pos (running.mpr hu), fun hu => if_neg (mt running.mp hu), rfl⟩
  rw [step_access h]
  exact congrArg _ (hostAccess_write8 agent { s with host := rest } v hb hi)

/-! ### Byte reads -/

theorem readBuffer_of_some {s : State} {a : Nat} {v : Byte} (h : s.mem.read a = some v) :
    s.readBuffer a = s.respond (.byte v) := by
  rw [State.readBuffer, h]

theorem readBuffer_of_none {s : State} {a : Nat} (h : s.mem.read a = none) :
    s.readBuffer a =
      { s with readFault := some (.hostRead a) }.respond (.byte (Config.unwrittenByte s.epoch a)) := by
  rw [State.readBuffer, h, State.bufferByte, h]

theorem readPrev_of_valid {s : State} (a : Nat) (valid : s.prevValid = true) : s.readPrev a = s.readBuffer a :=
  if_pos valid

theorem readPrev_of_empty {s : State} (a : Nat) (empty : s.prevValid = false) :
    s.readPrev a = { s with readFault := some (.emptyPrev a) }.respond (.byte (s.bufferByte a)) :=
  if_neg (by simp [empty])

/-- A byte read of NEW, OVR, or PREV while it is valid, reads the buffer (20_memory.md R65). -/
theorem hostAccess_read8 (agent : Agent) {s : State} {b i : Nat} (hb : b = 0x10000 ∨ b = 0x20000 ∨ b = 0x30000)
    (hi : i < 5808) (valid : b = 0x30000 → s.prevValid = true) :
    hostAccess agent (.read8 (s.params.blockBase + b + i)) s = s.readBuffer (b + i) := by
  obtain rfl | rfl | rfl := hb
  · simp only [hostAccess, placeOf_newByte s.params hi]; rfl
  · simp only [hostAccess, placeOf_ovrByte s.params hi]; rfl
  · simp only [hostAccess, placeOf_prevByte s.params hi]; exact readPrev_of_valid _ (valid rfl)

/-- A byte read of PREV while it is not valid is recorded (93_implementation_defined.md Part 1). -/
theorem hostAccess_read8_emptyPrev (agent : Agent) {s : State} {i : Nat} (hi : i < 5808) (empty : s.prevValid = false) :
    hostAccess agent (.read8 (s.params.blockBase + 0x30000 + i)) s =
      { s with readFault := some (.emptyPrev (0x30000 + i)) }.respond (.byte (s.bufferByte (0x30000 + i))) := by
  simp only [hostAccess, placeOf_prevByte s.params hi]
  exact readPrev_of_empty _ empty

/-- Settles O46. -/
theorem bufferReads : Obligations.BufferReads := by
  intro s agent b i rest hb hi h
  rw [step_access h]
  refine ⟨fun v hv valid => congrArg _ ?_, fun hv valid => congrArg _ ?_, fun hp empty => congrArg _ ?_⟩
  · exact (hostAccess_read8 agent (s := { s with host := rest }) hb hi valid).trans (readBuffer_of_some hv)
  · exact (hostAccess_read8 agent (s := { s with host := rest }) hb hi valid).trans (readBuffer_of_none hv)
  · subst hp
    exact hostAccess_read8_emptyPrev agent (s := { s with host := rest }) hi empty

/-! ### What leaves PREV as it is -/

/-- PREV_VALID and every byte from PREV on are the same (20_memory.md R60). -/
def KeepsPrev (s t : State) : Prop :=
  t.prevValid = s.prevValid ∧ ∀ x, prevBase ≤ x → t.mem.read x = s.mem.read x

theorem keepsPrev_of_eq {s t : State} (hv : t.prevValid = s.prevValid) (hm : t.mem = s.mem) : KeepsPrev s t :=
  ⟨hv, fun _ _ => by rw [hm]⟩

/-- No instruction writes a buffer. -/
theorem exec_keepsPrev {i : Instr} {s t : State} (h : exec i s = .next t) : KeepsPrev s t := by
  cases hi : i.isFrame with
  | true =>
    obtain ⟨c, r, -, rfl⟩ := exec_frame_next hi h
    rw [sendFrame_frame]
    exact keepsPrev_of_eq rfl rfl
  | false =>
    obtain ⟨code, rfl⟩ | ⟨c, -, -, rfl⟩ | ⟨b, -, rfl⟩ | ⟨kind, ovr, rfl⟩ := exec_command_cases hi h <;>
      exact keepsPrev_of_eq rfl rfl

theorem runOp_keepsPrev {op : Op} {rest : List Op} {s t : State} (hop : op ≠ .commit)
    (h : runOp op rest s = .next t) : KeepsPrev s t := by
  by_cases hsend : ∃ i, op = .send i
  · obtain ⟨i, rfl⟩ := hsend
    exact exec_keepsPrev h
  · obtain ⟨hm, hv⟩ := (runOp_keeps (fun i e => absurd ⟨i, e⟩ hsend) h).memory hop
    exact keepsPrev_of_eq hv hm

theorem blockStep_keepsPrev {s t : State} (hc : ∀ rest, s.todo ≠ .commit :: rest) (h : blockStep s = .next t) :
    KeepsPrev s t := by
  obtain ⟨-, e⟩ | ⟨-, -, e⟩ | ⟨-, -, -, e⟩ | ⟨op, rest, -, -, ht, e⟩ := blockStep_cases s <;> rw [e] at h
  · cases h; exact keepsPrev_of_eq rfl rfl
  · obtain ⟨i, -, e⟩ | ⟨r, -, e⟩ := runCommand_cases s <;> rw [e] at h
    · exact exec_keepsPrev (s := { s with pending := false }) h
    · cases h; exact keepsPrev_of_eq rfl rfl
  · cases h
  · exact runOp_keepsPrev (s := s.plan rest) (fun hop => hc rest (hop ▸ ht)) h

/-- The host writes NEW, OVR and registers only: what it can write lies below PREV (20_memory.md R60, R65). -/
theorem hostAccess_keepsPrev (agent : Agent) (x : Access) (s : State) : KeepsPrev s (hostAccess agent x s) := by
  obtain ⟨r, ⟨rf, -, e⟩ | ⟨o, v, e⟩ | ⟨a, v, ha, e⟩⟩ := hostAccess_cases agent x s <;> rw [e]
  · exact keepsPrev_of_eq rfl rfl
  · obtain ⟨hf, -, ⟨-, e⟩ | ⟨g, e⟩⟩ := writeReg_cases s agent o v <;> rw [e] <;> exact keepsPrev_of_eq rfl rfl
  · exact ⟨rfl, fun x hx => memory_read_write_other s.mem v (by omega)⟩

/-- Settles O55: a block step that is no commit and a host access keep PREV; the third kind of step is a reset. -/
theorem prevOnlyByCommit : Obligations.PrevOnlyByCommit := by
  intro s t h noReset noCommit
  have keeps : KeepsPrev s t := by
    obtain ⟨rest, hblock⟩ | ⟨agent, x, rest, rfl⟩ | ⟨calls, rest, hh, -⟩ := step_cases h
    · exact blockStep_keepsPrev (s := { s with host := rest }) noCommit hblock
    · exact hostAccess_keepsPrev agent x { s with host := rest }
    · exact absurd ⟨calls, rest, hh⟩ noReset
  obtain ⟨hvalid, hbytes⟩ := keeps
  exact ⟨hvalid, fun i _ => hbytes (0x30000 + i) (Nat.le_add_right _ i)⟩

end Sys2Proof.Machine
end

section
/-! Proofs of the family 30_encoding.md. First the command words: which word decodes to which command (O3), the words
written out from the spec (O5), and how an illegal word ends (O4). -/

namespace Sys2Proof.Machine

/-! ### Command words -/

/-- Every mask of the opcode map keeps OPCODE, so a word that matches a row has the row's opcode (30_encoding.md R91). -/
theorem cmdOpcode_of_hits {row : HostRow} {w : Word32} (hrow : row ∈ hostRows) (hits : row.hits w = true) :
    cmdOpcode w = cmdOpcode row.pattern := by
  have keepsOpcode : ∀ row ∈ hostRows, cmdOpcode row.mask = BitVec.allOnes 8 := by decide
  calc cmdOpcode w = cmdOpcode w &&& cmdOpcode row.mask := by rw [keepsOpcode row hrow, BitVec.and_allOnes]
    _ = cmdOpcode (w &&& row.mask) := BitVec.extractLsb'_and.symm
    _ = cmdOpcode row.pattern := by rw [eq_of_beq hits]

/-- At most one row matches a word: the rows' opcodes differ (R91). -/
theorem hostRow_unique {row row' : HostRow} {w : Word32} (hrow : row ∈ hostRows) (hrow' : row' ∈ hostRows)
    (hits : row.hits w = true) (hits' : row'.hits w = true) : row = row' := by
  have distinct : (hostRows.map (fun row => cmdOpcode row.pattern)).Nodup := by decide
  exact List.inj_on_of_nodup_map distinct hrow hrow'
    ((cmdOpcode_of_hits hrow hits).symm.trans (cmdOpcode_of_hits hrow' hits'))

/-- A word decodes to the command of the row it matches, with OVR its bit 16, and to nothing else (R90, R91). -/
theorem decodeWord_eq_ok_iff {w : Word32} {i : Instr} :
    decodeWord w = .ok i ↔ ∃ row ∈ hostRows, row.hits w = true ∧ row.instr (cmdOvr w) = i := by
  unfold decodeWord
  constructor
  · intro h
    split at h
    · next row found =>
      cases h
      have hits : row.hits w = true := List.find?_some (p := fun row : HostRow => row.hits w) found
      exact ⟨row, List.mem_of_find?_eq_some found, hits, rfl⟩
    · cases h
  · rintro ⟨row, hrow, hits, rfl⟩
    split
    · next row' found =>
      have hits' : row'.hits w = true := List.find?_some (p := fun row : HostRow => row.hits w) found
      rw [hostRow_unique hrow (List.mem_of_find?_eq_some found) hits hits']
    · next none => exact absurd hits (List.find?_eq_none.mp none row hrow)

/-- A word decodes to a row's command iff it matches the row's mask and pattern: the rows' commands differ (R91). -/
theorem decodeWord_eq_instr_iff {row : HostRow} (hrow : row ∈ hostRows) (w : Word32) :
    decodeWord w = .ok (row.instr (cmdOvr w)) ↔ w &&& row.mask = row.pattern := by
  have distinct : ∀ ovr, (hostRows.map (fun row => row.instr ovr)).Nodup := by decide
  rw [decodeWord_eq_ok_iff]
  constructor
  · rintro ⟨row', hrow', hits, same⟩
    obtain rfl : row' = row := List.inj_on_of_nodup_map (distinct _) hrow' hrow same
    exact eq_of_beq hits
  · exact fun h => ⟨row, hrow, beq_iff_eq.mpr h, rfl⟩

/-- Settles O3, row by row of the opcode map. -/
theorem commandWordsByMaskAndMatch : Obligations.CommandWordsByMaskAndMatch := by
  intro w
  have rows := fun row hrow => decodeWord_eq_instr_iff (row := row) hrow w
  simp only [hostRows, List.forall_mem_cons] at rows
  obtain ⟨configure, fixed, budget, temp, full, partialPass, -⟩ := rows
  refine ⟨configure, fixed, budget, temp, full, partialPass, fun i hi => ?_⟩
  obtain ⟨row, hrow, -, rfl⟩ := decodeWord_eq_ok_iff.mp hi
  exact List.mem_map_of_mem (f := fun row : HostRow => row.instr (cmdOvr w)) hrow

/-- A word that OVR's mask takes to a pattern is the pattern with the word's own OVR bit (R90, R91). -/
theorem word_eq_or_ovrBit {w pattern : Word32} (h : w &&& 0xFFFEFFFF = pattern) : w = pattern ||| ovrBit (cmdOvr w) := by
  have bit : w &&& 0x00010000 = ovrBit (cmdOvr w) := BitVec.and_twoPow w 16
  calc w = w &&& (0xFFFEFFFF ||| 0x00010000) := (BitVec.and_allOnes (x := w)).symm
    _ = w &&& 0xFFFEFFFF ||| w &&& 0x00010000 := BitVec.and_or_distrib_left
    _ = pattern ||| ovrBit (cmdOvr w) := by rw [h, bit]

/-- A word that decodes is the encoding of its command. -/
theorem encode_of_decodeWord (h : Headers) {w : Word32} {i : Instr} (hd : decodeWord w = .ok i) :
    encode h i = .word w := by
  have plain : ∀ {pattern : Word32}, w &&& 0xFFFFFFFF = pattern → pattern = w := fun hp =>
    hp.symm.trans BitVec.and_allOnes
  obtain ⟨row, hrow, hits, rfl⟩ := decodeWord_eq_ok_iff.mp hd
  have hw : w &&& row.mask = row.pattern := eq_of_beq hits
  simp only [hostRows, List.mem_cons, List.not_mem_nil, or_false] at hrow
  obtain rfl | rfl | rfl | rfl | rfl | rfl := hrow
  case inr.inr.inr.inr.inl | inr.inr.inr.inr.inr => exact congrArg Code.word (word_eq_or_ovrBit hw).symm
  all_goals exact congrArg Code.word (plain hw)

/-- What the encoder writes for a command decodes to it. -/
theorem decode_encode_command (h : Headers) {i : Instr} (hi : i.isFrame = false) : decode h (encode h i) = .ok i := by
  cases i with
  | configure | setTimingFixed | setTimingBudget | setTimingTemp => rfl
  | fullUpdate ovr | partialUpdate ovr => cases ovr <;> rfl
  | cogIndex | cogData | cogRead | cogId | cogBlock | cogRowSmall | cogRowMedium | cogRowLarge => cases hi

/-- Settles O5. -/
theorem specWordsDecode : Obligations.SpecWordsDecode := by
  unfold Obligations.SpecWordsDecode
  decide

/-! ### Illegal words -/

/-- The illegal words of 30_encoding.md R94: by opcode, by a reserved bit, or by OVR on a command that takes none. -/
abbrev IllegalWord (w : Word32) : Prop :=
  w.toNat / 2 ^ 24 = 0 ∨ 7 ≤ w.toNat / 2 ^ 24 ∨ w &&& 0x00FEFFFF ≠ 0
    ∨ (w.getLsbD 16 = true ∧ 1 ≤ w.toNat / 2 ^ 24 ∧ w.toNat / 2 ^ 24 ≤ 4)

/-- No command is encoded by an illegal word. -/
theorem not_illegalWord_of_encode {h : Headers} {i : Instr} {w : Word32} (he : encode h i = .word w) :
    ¬ IllegalWord w := by
  cases i with
  | configure | setTimingFixed | setTimingBudget | setTimingTemp => cases he; decide
  | fullUpdate ovr | partialUpdate ovr => cases he; cases ovr <;> decide
  | cogIndex | cogData | cogRead | cogId | cogBlock | cogRowSmall | cogRowMedium | cogRowLarge => cases he

/-- An illegal word is rejected. -/
theorem decodeWord_of_illegal {w : Word32} (hw : IllegalWord w) : ∃ e, decodeWord w = .error e := by
  cases hd : decodeWord w with
  | error e => exact ⟨e, rfl⟩
  | ok i => exact absurd hw (not_illegalWord_of_encode (encode_of_decodeWord Headers.reference hd))

/-- An issued word that is rejected leaves only the completion with ILLEGAL_COMMAND to do (46_host_commands.md R337). -/
theorem step_rejected {s : State} {w : Word32} {e : Reject} (hs : s.issued w) (hd : decodeWord w = .error e) :
    step s = .next ({ s with pending := false }.plan [.complete .illegalCommand]) := by
  obtain ⟨hhost, hbusy, hpending, rfl⟩ := hs
  rw [step_of_no_host hhost, blockStep, if_pos hbusy, if_pos hpending, runCommand, hd]
  rfl

/-- The last step of a command: its completion, and nothing else (46_host_commands.md R336). -/
theorem step_complete {s : State} {code : ResultCode} {rest : List Op} (hs : s.blockRuns)
    (ht : s.todo = .complete code :: rest) : step s = .next (s.complete code) := by
  obtain ⟨hhost, hbusy, hpending⟩ := hs
  simp only [step_of_no_host hhost, blockStep, hbusy, hpending, ht]
  rfl

/-- Settles O4: the word is rejected at the first step and the command completes at the second. -/
theorem illegalWordEnds : Obligations.IllegalWordEnds := by
  intro s w hs hw
  obtain ⟨e, hd⟩ := decodeWord_of_illegal hw
  obtain ⟨hhost, hbusy, -, -⟩ := id hs
  have runs : ({ s with pending := false }.plan [.complete .illegalCommand]).blockRuns := ⟨hhost, hbusy, rfl⟩
  exact (run_succ_of_next (step_rejected hs hd) 1).trans (run_succ_of_next (step_complete runs rfl) 0)

end Sys2Proof.Machine
end

section
/-! Chip-select frames: decoding undoes encoding (O1), encoding undoes decoding (O2), what sending a ROW frame does (O27),
and the ROW instructions as row transmissions (O36). -/

namespace Sys2Proof.Machine

/-! ### Headers -/

/-- A frame that starts with the data header is told by its length (30_encoding.md R98). -/
theorem decodeFrame_data (h : Headers) (rest : List Byte) : decodeFrame h (h.data :: rest) = decodeDataFrame rest :=
  if_pos rfl

/-- The headers that tell frames apart, pair by pair (R98). -/
theorem headers_wf_iff (h : Headers) :
    h.wf = true ↔ h.index ≠ h.data ∧ h.index ≠ h.read ∧ h.index ≠ h.id ∧ h.data ≠ h.read ∧ h.data ≠ h.id
      ∧ h.read ≠ h.id := by
  simp [Headers.wf, and_assoc]

theorem decodeFrame_index {h : Headers} (hw : h.wf = true) (reg : Byte) :
    decodeFrame h [h.index, reg] = .ok (.cogIndex reg) := by
  obtain ⟨data, -⟩ := (headers_wf_iff h).mp hw
  simp [decodeFrame, data]

theorem decodeFrame_read {h : Headers} (hw : h.wf = true) : decodeFrame h [h.read, h.dummy] = .ok .cogRead := by
  obtain ⟨-, index, -, data, -, -⟩ := (headers_wf_iff h).mp hw
  simp [decodeFrame, data.symm, index.symm]

theorem decodeFrame_id {h : Headers} (hw : h.wf = true) : decodeFrame h [h.id, h.dummy] = .ok .cogId := by
  obtain ⟨-, -, index, -, data, read⟩ := (headers_wf_iff h).mp hw
  simp [decodeFrame, data.symm, index.symm, read.symm]

/-! ### Bodies of ROW frames -/

theorem rowRunsOk_iff {size : PanelSize} {even scan odd : List Byte} :
    rowRunsOk size even scan odd = true ↔
      even.length = size.bytesPerLine ∧ scan.length = size.scanBytes ∧ odd.length = size.bytesPerLine := by
  simp [rowRunsOk, and_assoc]

theorem length_rowBody (lead : Option Byte) (even scan odd : List Byte) :
    (rowBody lead even scan odd).length = lead.toList.length + even.length + scan.length + odd.length := by
  simp [rowBody, Nat.add_assoc]

/-- Splitting the body of a ROW frame gives its parts back (R99). -/
theorem splitRow_rowBody {n sb : Nat} (lead : Option Byte) {even scan odd : List Byte} (trail : List Byte)
    (he : even.length = n) (hs : scan.length = sb) (ho : odd.length = n) :
    splitRow n sb lead.isSome (rowBody lead even scan odd ++ trail) = (lead, even, scan, odd, trail) := by
  subst he hs
  have pastEven : even.reverse.drop (even.length + scan.length + even.length) = [] :=
    List.drop_of_length_le (by rw [List.length_reverse]; omega)
  have pastScan : scan.drop (even.length + scan.length) = [] := List.drop_of_length_le (by omega)
  cases lead <;> simp [splitRow, rowBody, List.take_append, List.drop_append, ho, pastEven, pastScan]

/-- A list of `a + b` elements is one of `a` followed by one of `b`. -/
theorem exists_append_of_length {α : Type} {l : List α} {a b : Nat} (h : l.length = a + b) :
    ∃ x y, l = x ++ y ∧ x.length = a ∧ y.length = b :=
  ⟨l.take a, l.drop a, (List.take_append_drop a l).symm, by simp [h], by simp [h]⟩

/-- Bytes as many as the body of a ROW frame and `k` more, with or without a leading border, are such a body and what
follows it (R99). -/
theorem exists_rowBody {n sb k : Nat} {rest : List Byte}
    (h : rest.length = n + sb + n + k ∨ rest.length = 1 + (n + sb + n + k)) :
    ∃ lead even scan odd trail, rest = rowBody lead even scan odd ++ trail
      ∧ (even.length = n ∧ scan.length = sb ∧ odd.length = n) ∧ trail.length = k := by
  obtain ⟨lead, r, rfl, hr⟩ : ∃ (lead : Option Byte) (r : List Byte),
      rest = lead.toList ++ r ∧ r.length = n + sb + n + k := by
    obtain h | h := h
    · exact ⟨none, rest, rfl, h⟩
    · obtain ⟨b, r, rfl⟩ := List.exists_cons_of_length_pos (l := rest) (by omega)
      exact ⟨some b, r, rfl, by simpa [Nat.add_comm 1] using h⟩
  obtain ⟨r, trail, rfl, hr, ht⟩ := exists_append_of_length hr
  obtain ⟨r, odd, rfl, hr, ho⟩ := exists_append_of_length hr
  obtain ⟨even, scan, rfl, he, hs⟩ := exists_append_of_length hr
  exact ⟨lead, even.reverse, scan, odd, trail, by simp [rowBody], ⟨by simpa using he, hs, ho⟩, ht⟩

/-! ### The ROW instruction of a size -/

/-- The ROW instruction of a panel size; only SMALL has the trailing border byte (R99). -/
def rowInstr (size : PanelSize) (lead : Option Byte) (even scan odd : List Byte) (trail : Byte) : Instr :=
  match size with
  | .small => .cogRowSmall lead even scan odd trail
  | .medium => .cogRowMedium lead even scan odd
  | .large => .cogRowLarge lead even scan odd

/-- What follows the body of the ROW frame of a size (R99). -/
def rowTrail (size : PanelSize) (trail : Byte) : List Byte := if size = .small then [trail] else []

/-- How many bytes follow the header of a ROW frame that has no leading border (R99). -/
def rowLength (size : PanelSize) : Nat :=
  size.bytesPerLine + size.scanBytes + size.bytesPerLine + (rowTrail size 0).length

theorem length_rowTrail (size : PanelSize) (trail : Byte) : (rowTrail size trail).length = (rowTrail size 0).length := by
  cases size <;> rfl

/-- As many bytes as follow the body of a size are such a trail. -/
theorem exists_rowTrail {size : PanelSize} {l : List Byte} (h : l.length = (rowTrail size 0).length) :
    ∃ trail, l = rowTrail size trail := by
  cases size with
  | small => obtain ⟨trail, rfl⟩ := List.length_eq_one_iff.mp h; exact ⟨trail, rfl⟩
  | medium | large => exact ⟨0, List.eq_nil_of_length_eq_zero h⟩

theorem rowInstr_wf (size : PanelSize) (lead : Option Byte) (even scan odd : List Byte) (trail : Byte) :
    (rowInstr size lead even scan odd trail).wf = rowRunsOk size even scan odd := by
  cases size <;> rfl

theorem rowInstr_isFrame (size : PanelSize) (lead : Option Byte) (even scan odd : List Byte) (trail : Byte) :
    (rowInstr size lead even scan odd trail).isFrame = true := by
  cases size <;> rfl

theorem encode_rowInstr (h : Headers) (size : PanelSize) (lead : Option Byte) (even scan odd : List Byte)
    (trail : Byte) :
    encode h (rowInstr size lead even scan odd trail)
      = .frame (h.data :: (rowBody lead even scan odd ++ rowTrail size trail)) := by
  cases size <;> simp [rowInstr, rowTrail, encode]

/-! ### Frames with the data header -/

theorem decodeDataFrame_block {table : List Byte} (h : table.length = 8) :
    decodeDataFrame table = .ok (.cogBlock table) := by
  simp [decodeDataFrame, h]

/-- The ROW instruction of a size, given the parts of its frame. -/
def rowOfParts (size : PanelSize) : Option Byte × List Byte × List Byte × List Byte × List Byte → Instr
  | (lead, even, scan, odd, trail) => rowInstr size lead even scan odd (trail.headD 0)

/-- By its length a frame is the ROW frame of a size, with a leading border or without (R99). -/
theorem decodeDataFrame_of_length {size : PanelSize} {withLead : Bool} {rest : List Byte}
    (len : rest.length = withLead.toNat + rowLength size) :
    decodeDataFrame rest = .ok (rowOfParts size (splitRow size.bytesPerLine size.scanBytes withLead rest)) := by
  unfold decodeDataFrame
  rw [len]
  cases size <;> cases withLead <;> rfl

/-- What follows the header of a ROW frame decodes to the ROW instruction of its size. -/
theorem decodeDataFrame_row {size : PanelSize} (lead : Option Byte) {even scan odd : List Byte} (trail : Byte)
    (h : rowRunsOk size even scan odd = true) :
    decodeDataFrame (rowBody lead even scan odd ++ rowTrail size trail)
      = .ok (rowInstr size lead even scan odd trail) := by
  obtain ⟨he, hs, ho⟩ := rowRunsOk_iff.mp h
  have len : (rowBody lead even scan odd ++ rowTrail size trail).length = lead.isSome.toNat + rowLength size := by
    have hlead : lead.toList.length = lead.isSome.toNat := by cases lead <;> rfl
    rw [List.length_append, length_rowBody, length_rowTrail, hlead, he, hs, ho, rowLength]
    omega
  rw [decodeDataFrame_of_length len, splitRow_rowBody lead (rowTrail size trail) he hs ho]
  cases size <;> rfl

/-- The lengths of the frames with the data header: DATA, BLOCK, or a ROW frame with or without a leading border. -/
theorem length_of_decodeDataFrame {rest : List Byte} {i : Instr} (h : decodeDataFrame rest = .ok i) :
    rest.length = 1 ∨ rest.length = 8
      ∨ ∃ size, rest.length = rowLength size ∨ rest.length = 1 + rowLength size := by
  unfold decodeDataFrame at h
  split at h
  · next len => exact .inl len
  · next len => exact .inr (.inl len)
  · next len => exact .inr (.inr ⟨.small, .inl len⟩)
  · next len => exact .inr (.inr ⟨.small, .inr len⟩)
  · next len => exact .inr (.inr ⟨.medium, .inl len⟩)
  · next len => exact .inr (.inr ⟨.medium, .inr len⟩)
  · next len => exact .inr (.inr ⟨.large, .inl len⟩)
  · next len => exact .inr (.inr ⟨.large, .inr len⟩)
  · cases h

/-- The instruction `i` is a well-formed COG frame of these bytes. -/
def IsFrameOf (h : Headers) (i : Instr) (bytes : List Byte) : Prop :=
  encode h i = .frame bytes ∧ i.wf = true ∧ i.isFrame = true

/-- Bytes as many as a ROW frame of a size has after its header are those of a ROW instruction of that size, and decode
to it. -/
theorem exists_row_of_length (h : Headers) {size : PanelSize} {rest : List Byte}
    (len : rest.length = rowLength size ∨ rest.length = 1 + rowLength size) :
    ∃ i, decodeDataFrame rest = .ok i ∧ IsFrameOf h i (h.data :: rest) := by
  obtain ⟨lead, even, scan, odd, tail, rfl, runs, htail⟩ := exists_rowBody len
  obtain ⟨trail, rfl⟩ := exists_rowTrail htail
  have ok := rowRunsOk_iff.mpr runs
  exact ⟨_, decodeDataFrame_row lead trail ok, encode_rowInstr h size lead even scan odd trail,
    (rowInstr_wf ..).trans ok, rowInstr_isFrame ..⟩

/-- A frame with the data header that decodes is the frame of what it decodes to. -/
theorem isFrameOf_of_decodeDataFrame (h : Headers) {rest : List Byte} {i : Instr}
    (hd : decodeDataFrame rest = .ok i) : IsFrameOf h i (h.data :: rest) := by
  obtain len | len | ⟨size, len⟩ := length_of_decodeDataFrame hd
  · obtain ⟨value, rfl⟩ := List.length_eq_one_iff.mp len
    cases hd
    exact ⟨rfl, rfl, rfl⟩
  · rw [decodeDataFrame_block len] at hd
    cases hd
    exact ⟨rfl, beq_iff_eq.mpr len, rfl⟩
  · obtain ⟨j, hj, isFrame⟩ := exists_row_of_length h len
    rw [hd] at hj
    cases hj
    exact isFrame

/-! ### Decoding and encoding -/

/-- A chip-select frame that decodes is the frame of what it decodes to: header by header (30_encoding.md R98). -/
theorem isFrameOf_of_decodeFrame {h : Headers} {bytes : List Byte} {i : Instr} (hd : decodeFrame h bytes = .ok i) :
    IsFrameOf h i bytes := by
  unfold decodeFrame at hd
  split at hd
  · cases hd
  split_ifs at hd with hdata hindex hread hid
  · subst hdata
    exact isFrameOf_of_decodeDataFrame h hd
  all_goals split at hd
  · subst hindex
    cases hd
    exact ⟨rfl, rfl, rfl⟩
  · cases hd
  · split_ifs at hd with hb
    subst hread hb
    cases hd
    exact ⟨rfl, rfl, rfl⟩
  · cases hd
  · split_ifs at hd with hb
    subst hid hb
    cases hd
    exact ⟨rfl, rfl, rfl⟩
  · cases hd

/-- Settles O2. -/
theorem encodeOfDecode : Obligations.EncodeOfDecode :=
  fun h _ => ⟨fun _ hd => encode_of_decodeWord h hd, fun _ hd => isFrameOf_of_decodeFrame hd⟩

/-- A well-formed ROW instruction is what its frame decodes to. -/
theorem decode_encode_row (h : Headers) (size : PanelSize) (lead : Option Byte) {even scan odd : List Byte} (trail : Byte)
    (ok : rowRunsOk size even scan odd = true) :
    decode h (encode h (rowInstr size lead even scan odd trail)) = .ok (rowInstr size lead even scan odd trail) := by
  rw [encode_rowInstr, decode, decodeFrame_data, decodeDataFrame_row lead trail ok]

/-- Settles O1, by the forms of an instruction: command words, frames of two bytes, BLOCK, and ROW frames. -/
theorem decodeOfEncode : Obligations.DecodeOfEncode := by
  intro h i distinct wf
  cases i with
  | configure | setTimingFixed | setTimingBudget | setTimingTemp | fullUpdate | partialUpdate =>
    exact decode_encode_command h rfl
  | cogIndex reg => exact decodeFrame_index distinct reg
  | cogData value => exact decodeFrame_data h [value]
  | cogRead => exact decodeFrame_read distinct
  | cogId => exact decodeFrame_id distinct
  | cogBlock table => exact (decodeFrame_data h table).trans (decodeDataFrame_block (eq_of_beq wf))
  | cogRowSmall lead even scan odd trail => exact decode_encode_row h .small lead trail wf
  | cogRowMedium lead even scan odd => exact decode_encode_row h .medium lead 0 wf
  | cogRowLarge lead even scan odd => exact decode_encode_row h .large lead 0 wf

/-! ### Frames sent -/

/-- The chip-select pin is driven active and then inactive, and no other pin is driven (40_transport.md R136). -/
theorem sendFrame_pins (s : State) (cs : PinId) (bytes : List Byte) :
    (s.sendFrame cs bytes).pins = sparsePut (sparsePut s.pins cs s.params.csActive) cs (!s.params.csActive) := by
  have params : ((s.csAssert cs).frameRun cs (bytes.map .exchange)).params = s.params := by rw [frameRun_frame]; rfl
  rw [sendFrame_eq, State.csDeassert_eq, State.pinWrite_pins, exchanges_pins, params]
  rfl

/-- Exchanges take answers from the peer's bytes only. -/
theorem tookBytes_frame (p : Peer) (n : Nat) :
    p.tookBytes n = { p with bytes := (p.tookBytes n).bytes, freeBytes := (p.tookBytes n).freeBytes } := by
  induction n generalizing p with
  | zero => rfl
  | succ n ih =>
    have one : p.tookByte = { p with bytes := p.tookByte.bytes, freeBytes := p.tookByte.freeBytes } := by
      unfold Peer.tookByte; split <;> rfl
    rw [← tookBytes_tookByte, ih, one]

/-- What sending a frame does, whatever the working registers then keep of it (R136 to R138). -/
theorem frameSent_sendFrame (s : State) (cs : PinId) (bytes : List Byte) (w : Work) :
    FrameSent cs bytes s { s.sendFrame cs bytes with work := w } where
  log := sendFrame_log s cs bytes
  csLevel := by rw [sendFrame_pins, sparseGet_put_same]
  otherPins := fun p hp => by rw [sendFrame_pins, sparseGet_put_other _ _ hp, sparseGet_put_other _ _ hp]
  answers := fun k => by rw [sendFrame_peer, byteAt_tookBytes]
  otherAnswers := by
    rw [sendFrame_peer]
    exact tookBytes_frame s.peer bytes.length
  frame := by rw [sendFrame_frame]

/-- Under a configuration a COG instruction sends its frame and keeps what READ and ID return. -/
theorem exec_frame_sent {i : Instr} (hi : i.isFrame = true) {s : State} {c : DriverConfig} (hc : s.cfg = some c) :
    ∃ t, exec i s = .next t
      ∧ t.work = workAfter (s.peer.byteAt ((frameBytes s.params.headers i).length - 1)) s.work i
      ∧ FrameSent c.cs (frameBytes s.params.headers i) s t :=
  ⟨_, exec_frame_configured hi hc, rfl, frameSent_sendFrame ..⟩

/-- The bytes of a ROW frame in order of transmission (30_encoding.md R99). -/
theorem frameBytes_rowInstr (h : Headers) (size : PanelSize) (lead : Option Byte) (even scan odd : List Byte)
    (trail : Byte) :
    frameBytes h (rowInstr size lead even scan odd trail)
      = [h.data] ++ lead.toList ++ even.reverse ++ scan ++ odd ++ rowTrail size trail := by
  simp [frameBytes, encode_rowInstr, rowBody]

/-- The ROW instruction of a size sends its frame and keeps no returned byte. -/
theorem exec_row_sent (size : PanelSize) (lead : Option Byte) (even scan odd : List Byte) (trail : Byte) {s : State}
    {c : DriverConfig} (hc : s.cfg = some c) :
    ∃ t, exec (rowInstr size lead even scan odd trail) s = .next t ∧ t.work = s.work
      ∧ FrameSent c.cs
        ([s.params.headers.data] ++ lead.toList ++ even.reverse ++ scan ++ odd ++ rowTrail size trail) s t := by
  obtain ⟨t, ht, work, sent⟩ := exec_frame_sent (rowInstr_isFrame size lead even scan odd trail) hc
  rw [frameBytes_rowInstr] at sent
  exact ⟨t, ht, work.trans (by cases size <;> rfl), sent⟩

/-- Settles O27; a frame of MEDIUM or LARGE has no trailing border. -/
theorem rowFramesSent : Obligations.RowFramesSent := by
  intro s c lead even scan odd trail hc
  have medium := exec_row_sent .medium lead even scan odd trail hc
  have large := exec_row_sent .large lead even scan odd trail hc
  rw [show rowTrail .medium trail = [] from rfl, List.append_nil] at medium
  rw [show rowTrail .large trail = [] from rfl, List.append_nil] at large
  exact ⟨exec_row_sent .small lead even scan odd trail hc, medium, large⟩

/-- The ROW instruction of a size carries the bytes of the row transmission of that size (43_frame_renderer.md R250). -/
theorem frameBytes_eq_rowFrameBytes (p : Params) (size : PanelSize) (row : Nat) (E O : Nat → Byte) :
    frameBytes p.headers
        (rowInstr size (if p.leadingBorder.get size then some p.borderByte else none)
          ((List.range size.bytesPerLine).map E) ((List.range size.scanBytes).map (scanByte p.scan size row))
          ((List.range size.bytesPerLine).map O) p.borderByte)
      = rowFrameBytes p size row E O := by
  rw [frameBytes_rowInstr, rowFrameBytes, rowTrail, apply_ite Option.toList, List.map_reverse]
  rfl

/-- Settles O36. -/
theorem rowInstructionIsTheRowFrame : Obligations.RowInstructionIsTheRowFrame :=
  fun p row E O =>
    ⟨frameBytes_eq_rowFrameBytes p .small row E O, frameBytes_eq_rowFrameBytes p .medium row E O,
      frameBytes_eq_rowFrameBytes p .large row E O⟩

end Sys2Proof.Machine
end

section
/-! Proofs of the family 40_transport.md. What every step adds to the transport log and how far it moves `Now`, said once for
the clock readings (O58) and the exchanges (O59); then the register frames (O25, O26) and a frame with no configuration
(O28). -/

namespace Sys2Proof.Machine

/-! ### Events logged -/

@[simp] theorem clockValues_append (l l' : List Event) : clockValues (l ++ l') = clockValues l ++ clockValues l' :=
  List.filterMap_append

@[simp] theorem exchangeCount_append (l l' : List Event) :
    exchangeCount (l ++ l') = exchangeCount l + exchangeCount l' := by simp [exchangeCount]

/-- From `s` to `t` the events `es` were logged; the clock readings among them rise and lie between the values `Now` last
returned at the two ends (40_transport.md R131, R132). -/
structure Logs (s t : State) (es : List Event) : Prop where
  log : t.log = s.log ++ es
  rising : (clockValues es).Pairwise (· ≤ ·)
  between : ∀ v ∈ clockValues es, s.peer.lastNow ≤ v ∧ v ≤ t.peer.lastNow
  now : s.peer.lastNow ≤ t.peer.lastNow

section
variable {s t u : State} {es es' : List Event}

theorem Logs.quiet (hlog : t.logRev = s.logRev) (hpeer : t.peer = s.peer) : Logs s t [] where
  log := by simp [State.log, hlog]
  rising := .nil
  between := nofun
  now := by rw [hpeer]

/-- One event that is no clock reading. -/
theorem Logs.event {e : Event} (he : clockValues [e] = []) (hlog : t.logRev = e :: s.logRev)
    (hnow : t.peer.lastNow = s.peer.lastNow) : Logs s t [e] where
  log := by simp [State.log, hlog]
  rising := by rw [he]; exact .nil
  between := by rw [he]; nofun
  now := hnow.ge

theorem Logs.readClock (s : State) : Logs s s.readClock [.clock s.peer.nextNow] where
  log := log_readClock s
  rising := List.pairwise_singleton _ _
  between := fun v hv => by
    obtain rfl : v = s.peer.nextNow := List.mem_singleton.1 hv
    exact ⟨lastNow_le_nextNow _, (lastNow_tookNow _).ge⟩
  now := (lastNow_le_nextNow _).trans (lastNow_tookNow _).ge

theorem Logs.trans (h : Logs s t es) (h' : Logs t u es') : Logs s u (es ++ es') where
  log := by rw [h'.log, h.log, List.append_assoc]
  rising := by
    rw [clockValues_append]
    exact List.pairwise_append.2
      ⟨h.rising, h'.rising, fun v hv w hw => (h.between v hv).2.trans (h'.between w hw).1⟩
  between := fun v hv => by
    rw [clockValues_append] at hv
    obtain hv | hv := List.mem_append.1 hv
    · exact ⟨(h.between v hv).1, (h.between v hv).2.trans h'.now⟩
    · exact ⟨h.now.trans (h'.between v hv).1, (h'.between v hv).2⟩
  now := h.now.trans h'.now

theorem Logs.then_quiet (h : Logs s t es) (hlog : u.logRev = t.logRev) (hpeer : u.peer = t.peer) : Logs s u es := by
  simpa using h.trans (.quiet hlog hpeer)

theorem Logs.after_quiet (h : Logs t u es) (hlog : t.logRev = s.logRev) (hpeer : t.peer = s.peer) : Logs s u es :=
  (Logs.quiet hlog hpeer).trans h

end

/-! ### Instructions -/

theorem frameCall_logs (cs : PinId) (s : State) (call : FrameCall) : ∃ e, Logs s (s.frameCall cs call) [e] := by
  cases call with
  | assert => exact ⟨_, .event rfl rfl rfl⟩
  | exchange b => exact ⟨_, .event rfl rfl (lastNow_tookByte _)⟩
  | deassert => exact ⟨_, .event rfl rfl rfl⟩

/-- Calls of a frame, all or some of them, only add to the log. -/
theorem frameRun_logs (s : State) (cs : PinId) (calls : List FrameCall) : ∃ es, Logs s (s.frameRun cs calls) es := by
  induction calls generalizing s with
  | nil => exact ⟨[], .quiet rfl rfl⟩
  | cons call calls ih =>
    obtain ⟨e, first⟩ := frameCall_logs cs s call
    obtain ⟨es, others⟩ := ih (s.frameCall cs call)
    exact ⟨_, first.trans others⟩

/-- An instruction only adds to the log, and a host command's own step adds nothing. -/
theorem exec_logs {i : Instr} {s t : State} (h : exec i s = .next t) :
    ∃ es, Logs s t es ∧ (i.isFrame = false → es = []) := by
  cases hi : i.isFrame with
  | true =>
    obtain ⟨c, r, -, rfl⟩ := exec_frame_next hi h
    obtain ⟨es, sent⟩ := frameRun_logs s c.cs (frameCalls (frameBytes s.params.headers i))
    exact ⟨es, sent.then_quiet rfl rfl, nofun⟩
  | false =>
    obtain ⟨code, rfl⟩ | ⟨c, -, -, rfl⟩ | ⟨b, -, rfl⟩ | ⟨kind, ovr, rfl⟩ := exec_command_cases hi h <;>
      exact ⟨[], .quiet rfl rfl, fun _ => rfl⟩

/-! ### Steps of the sequencer -/

/-- The steps that exchange bytes with the panel. -/
def Op.exchanges : Op → Bool
  | .send _ | .exchange _ => true
  | _ => false

theorem stageGoesOn_logs {rest : List Op} {s u t : State} {es : List Event} (h : StageGoesOn rest u t)
    (hu : Logs s u es) : Logs s t es :=
  hu.then_quiet (by rw [stageGoesOn_frame h]) (by rw [stageGoesOn_frame h])

theorem countSweep_logs (s : State) : Logs s s.countSweep [] := by
  rw [countSweep_frame]
  exact .quiet rfl rfl

/-- A sequencer step adds to the log; only `send` and `exchange` add exchanges. -/
theorem runOp_logs {op : Op} {rest : List Op} {s t : State} (h : runOp op rest s = .next t) :
    ∃ es, Logs s t es ∧ (exchangeCount es = 0 ∨ op.exchanges = true) := by
  cases op with
  | enter | chargeStart | renderStart | sweepStart | complete => cases h; exact ⟨[], .quiet rfl rfl, .inl rfl⟩
  | pinDir | pinWrite | delay | sessionBegin | sessionEnd | csAssert | csDeassert =>
    cases h
    exact ⟨_, .event rfl rfl rfl, .inl rfl⟩
  | validate =>
    cases h
    obtain ⟨code, e⟩ | ⟨c, -, -, -, e⟩ := runValidate_cases s <;> (rw [e]; exact ⟨[], .quiet rfl rfl, .inl rfl⟩)
  | send i =>
    obtain ⟨es, logs, -⟩ := exec_logs h
    exact ⟨es, logs, .inr rfl⟩
  | busyPoll =>
    obtain ⟨c, -, e⟩ := withConfig_next h
    cases e
    obtain ⟨ops, e, -⟩ := runBusyPoll_cases c rest s
    rw [e]
    exact ⟨_, .event rfl rfl (lastNow_tookLevel _), .inl rfl⟩
  | checkId | checkPanel | checkDc =>
    obtain ⟨c, -, rfl | ⟨code, rfl⟩ | ⟨-, rfl⟩⟩ := check_cases (by simp) h <;>
      exact ⟨[], .quiet rfl rfl, .inl rfl⟩
  | stageStart =>
    obtain ⟨u, start, rfl | rfl, goesOn⟩ := runStageStart_cases h
    · exact ⟨[], stageGoesOn_logs goesOn (.quiet rfl rfl), .inl rfl⟩
    · exact ⟨_, stageGoesOn_logs goesOn ((Logs.readClock s).then_quiet rfl rfl), .inl rfl⟩
  | sweepEnd =>
    obtain ⟨u, rfl | rfl, goesOn⟩ := runSweepEnd_cases h
    · exact ⟨[], stageGoesOn_logs goesOn (countSweep_logs s), .inl rfl⟩
    · exact ⟨_, stageGoesOn_logs goesOn ((countSweep_logs s).trans (.readClock _)), .inl rfl⟩
  | rowStart | commit =>
    obtain ⟨c, -, e⟩ := withConfig_next h
    cases e
    exact ⟨[], .quiet rfl rfl, .inl rfl⟩
  | exchange src =>
    obtain ⟨c, -, e⟩ := withConfig_next h
    obtain ⟨b, rf, i, -, -, rfl⟩ := runExchange_cases e
    exact ⟨_, .event rfl rfl (lastNow_tookByte _), .inr rfl⟩
  | rowEnd =>
    obtain ⟨c, -, e⟩ := withConfig_next h
    cases e
    obtain e | ⟨-, e⟩ := runRowEnd_cases c rest s <;> (rw [e]; exact ⟨[], .quiet rfl rfl, .inl rfl⟩)

/-! ### Steps of the machine -/

/-- The block's next step exchanges bytes with the panel. -/
def State.sending (s : State) : Prop :=
  s.busy = true ∧ s.pending = false ∧ ∃ op rest, s.todo = op :: rest ∧ op.exchanges = true

theorem blockStep_logs {s t : State} (h : blockStep s = .next t) :
    ∃ es, Logs s t es ∧ (exchangeCount es = 0 ∨ s.sending) := by
  obtain ⟨-, e⟩ | ⟨-, -, e⟩ | ⟨-, -, -, e⟩ | ⟨op, rest, hb, hp, ht, e⟩ := blockStep_cases s <;> rw [e] at h
  · cases h; exact ⟨[], .quiet rfl rfl, .inl rfl⟩
  · obtain ⟨i, hd, e⟩ | ⟨r, -, e⟩ := runCommand_cases s <;> rw [e] at h
    · obtain ⟨es, logs, silent⟩ := exec_logs h
      obtain rfl := silent (decodeWord_isCommand hd)
      exact ⟨[], logs.after_quiet rfl rfl, .inl rfl⟩
    · cases h; exact ⟨[], .quiet rfl rfl, .inl rfl⟩
  · cases h
  · obtain ⟨es, logs, hes⟩ := runOp_logs h
    exact ⟨es, logs.after_quiet rfl rfl, hes.imp_right fun sends => ⟨hb, hp, op, rest, ht, sends⟩⟩

/-- A host access issues a command, whose log starts empty, or leaves the log; the peer answers nothing (46_host_commands.md
R330). -/
theorem hostAccess_log (agent : Agent) (x : Access) (s : State) :
    ((hostAccess agent x s).logRev = [] ∨ (hostAccess agent x s).logRev = s.logRev)
      ∧ (hostAccess agent x s).peer = s.peer := by
  obtain ⟨r, ⟨rf, -, e⟩ | ⟨o, v, e⟩ | ⟨a, v, -, e⟩⟩ := hostAccess_cases agent x s <;> rw [e]
  · exact ⟨.inr rfl, rfl⟩
  · obtain ⟨hf, -, ⟨-, e⟩ | ⟨g, e⟩⟩ := writeReg_cases s agent o v <;> rw [e]
    · exact ⟨.inl rfl, rfl⟩
    · exact ⟨.inr rfl, rfl⟩
  · exact ⟨.inr rfl, rfl⟩

/-- A reset logs only what it lets a frame in progress still send (70_reset_and_hazards.md R400). -/
theorem takeReset_logs (s : State) (calls : Nat) :
    ∃ es, Logs s (s.takeReset calls) es ∧ (exchangeCount es = 0 ∨ s.sending) := by
  have cut : ∃ es, Logs s (s.cutFrame calls) es ∧ (exchangeCount es = 0 ∨ s.sending) := by
    unfold State.cutFrame
    split
    · next i rest c running ht _ =>
      obtain ⟨hb, hp⟩ : s.busy = true ∧ s.pending = false := by simpa using running
      obtain ⟨es, logs⟩ := frameRun_logs s c.cs ((frameCalls (frameBytes s.params.headers i)).take calls)
      exact ⟨es, logs, .inr ⟨hb, hp, _, rest, ht, rfl⟩⟩
    · exact ⟨[], .quiet rfl rfl, .inl rfl⟩
  obtain ⟨es, logs, hes⟩ := cut
  exact ⟨es, logs.then_quiet rfl rfl, hes⟩

/-- A step issues a command, whose log starts empty, or adds to the log; only where the block is sending does it add an
exchange. -/
theorem step_logs {s t : State} (h : step s = .next t) :
    (t.log = [] ∧ t.peer = s.peer) ∨ ∃ es, Logs s t es ∧ (exchangeCount es = 0 ∨ s.sending) := by
  obtain ⟨rest, hblock⟩ | ⟨agent, x, rest, rfl⟩ | ⟨calls, rest, -, rfl⟩ := step_cases h
  · obtain ⟨es, logs, hes⟩ := blockStep_logs hblock
    exact .inr ⟨es, logs.after_quiet rfl rfl, hes⟩
  · obtain ⟨hempty | hlog, hpeer⟩ := hostAccess_log agent x { s with host := rest }
    · exact .inl ⟨by rw [State.log, hempty, List.reverse_nil], hpeer⟩
    · exact .inr ⟨[], .quiet hlog hpeer, .inl rfl⟩
  · obtain ⟨es, logs, hes⟩ := takeReset_logs { s with host := rest } calls
    exact .inr ⟨es, logs.after_quiet rfl rfl, hes⟩

/-- Settles O58: the readings a step adds rise and follow those of the log, none of which is past `Now`. -/
theorem clockNeverDecreases : Obligations.ClockNeverDecreases := by
  intro s t h rising bounded
  obtain ⟨hempty, hpeer⟩ | ⟨es, logs, -⟩ := step_logs h
  · rw [hempty, hpeer]
    exact ⟨.nil, nofun, le_rfl⟩
  · rw [logs.log, clockValues_append]
    refine ⟨List.pairwise_append.2 ⟨rising, logs.rising, ?_⟩, ?_, logs.now⟩
    · exact fun v hv w hw => (bounded v hv).trans (logs.between w hw).1
    · intro v hv
      obtain hv | hv := List.mem_append.1 hv
      · exact (bounded v hv).trans logs.now
      · exact (logs.between v hv).2

/-! ### Exchanges and the session -/

/-- In a sound program a step that exchanges bytes stands in an open session (40_transport.md R134). -/
theorem session_of_progOk {session frame : Bool} {fsm : Fsm} {op : Op} {rest : List Op}
    (h : progOk session frame fsm (op :: rest) = true) (sends : op.exchanges = true) : session = true := by
  cases op with
  | send | exchange =>
    simp only [progOk, Bool.and_eq_true] at h
    obtain ⟨⟨⟨opened, -⟩, -⟩, -⟩ := h
    exact opened
  | _ => cases sends

/-- A sound state that is sending is updating, with the session open. -/
theorem session_of_sending {s : State} (hi : s.Inv) (sending : s.sending) : s.session = true := by
  obtain ⟨hb, hp, op, rest, ht, sends⟩ := sending
  obtain ⟨idle, -⟩ | ⟨-, issued, -⟩ | ⟨-, -, validating, -⟩ | ⟨-, -, ⟨code, completing⟩, -⟩ |
    ⟨-, -, -, -, -, frame, sound⟩ := hi.control
  · rw [idle] at hb; cases hb
  · rw [issued] at hp; cases hp
  · rw [validating] at ht; cases ht; cases sends
  · rw [completing] at ht; cases ht; cases sends
  · rw [ht] at sound; exact session_of_progOk sound sends

/-- Settles O59: a step adds an exchange only where the block is sending, which it does in an open session only. -/
theorem exchangesOnlyInSession : Obligations.ExchangesOnlyInSession := by
  intro s t hi h closed
  obtain ⟨hempty, -⟩ | ⟨es, logs, noExchange | sending⟩ := step_logs h
  · rw [hempty]; exact Nat.zero_le _
  · rw [logs.log, exchangeCount_append, noExchange]; exact le_rfl
  · rw [session_of_sending hi sending] at closed; cases closed

/-! ### Register frames -/

/-- Under a configuration a COG instruction whose bytes are `bytes` sends them, and the working registers are `w`. -/
abbrev Sends (c : DriverConfig) (i : Instr) (bytes : List Byte) (w : Work) (s : State) : Prop :=
  ∃ t, exec i s = .next t ∧ FrameSent c.cs bytes s t ∧ t.work = w

theorem sends_frame {i : Instr} (hi : i.isFrame = true) {s : State} {c : DriverConfig} (hc : s.cfg = some c) :
    Sends c i (frameBytes s.params.headers i)
      (workAfter (s.peer.byteAt ((frameBytes s.params.headers i).length - 1)) s.work i) s := by
  obtain ⟨t, ht, work, sent⟩ := exec_frame_sent hi hc
  exact ⟨t, ht, sent, work⟩

/-- Settles O25. -/
theorem indexAndDataFramesSent : Obligations.IndexAndDataFramesSent :=
  fun _ _ v hc => ⟨sends_frame (i := .cogIndex v) rfl hc, sends_frame (i := .cogData v) rfl hc⟩

/-- Settles O26: the byte READ and ID keep is the one their second and last exchange returns. -/
theorem readIdAndBlockFramesSent : Obligations.ReadIdAndBlockFramesSent :=
  fun _ _ table hc =>
    ⟨sends_frame (i := .cogRead) rfl hc, sends_frame (i := .cogId) rfl hc, sends_frame (i := .cogBlock table) rfl hc⟩

/-- Settles O28: a frame is one `sendInstr`, which has no chip-select pin to drive without a configuration. -/
theorem frameWithoutConfigurationStops : Obligations.FrameWithoutConfigurationStops := by
  intro s i unset hi
  rw [exec_frame hi]
  obtain ⟨-, e⟩ | ⟨c, hc, -⟩ := sendInstr_cases i (fun r t => { t with work := workAfter r t.work i }) s
  · exact e
  · rw [unset] at hc; cases hc

end Sys2Proof.Machine
end

section
/-! Proofs of the family 41_pixel_mapper.md. First mapped bytes as four symbols; then the lookup tables (O31) and the
placement of pixels in the full refresh (O29) and in the partial update (O30), which cite them; then the stages' bytes (O33)
and the scan sweep (O32). -/

namespace Sys2Proof.Machine

/-! ### Four symbols in a byte -/

/-- The symbols of a byte written from its highest pair down (30_encoding.md R100). -/
theorem symbolAt_append (s3 s2 s1 s0 : Symbol) :
    symbolAt ((s3 ++ s2) ++ (s1 ++ s0)) 3 = s3 ∧ symbolAt ((s3 ++ s2) ++ (s1 ++ s0)) 2 = s2
    ∧ symbolAt ((s3 ++ s2) ++ (s1 ++ s0)) 1 = s1 ∧ symbolAt ((s3 ++ s2) ++ (s1 ++ s0)) 0 = s0 := by
  revert s3 s2 s1 s0; decide

theorem eq_append_symbolAt (x : Byte) : x = (symbolAt x 3 ++ symbolAt x 2) ++ (symbolAt x 1 ++ symbolAt x 0) := by
  revert x; decide

theorem symbol_eq_bits (y : Symbol) : y = BitVec.ofBool (y.getLsbD 1) ++ BitVec.ofBool (y.getLsbD 0) := by
  revert y; decide

theorem symbolAt_eq_bits (x : Byte) (k : Nat) :
    symbolAt x k = BitVec.ofBool (x.getLsbD (2 * k + 1)) ++ BitVec.ofBool (x.getLsbD (2 * k)) := by
  have high : (symbolAt x k).getLsbD 1 = x.getLsbD (2 * k + 1) := by simp [symbolAt]
  have low : (symbolAt x k).getLsbD 0 = x.getLsbD (2 * k) := by simp [symbolAt]
  rw [symbol_eq_bits (symbolAt x k), high, low]

/-! ### The lookup tables -/

theorem maskIndex_bit0 (d : Byte) (k : Nat) : (maskIndex d k).getLsbD 0 = d.getLsbD k := by simp [maskIndex]

theorem maskIndex_bit1 (d : Byte) (k : Nat) : (maskIndex d k).getLsbD 1 = false := by simp [maskIndex]

theorem maskIndex_bit2 (d : Byte) (k : Nat) : (maskIndex d k).getLsbD 2 = d.getLsbD (k + 2) := by
  simp [maskIndex]

theorem lutEven_of_bit1_clear (w b : Symbol) {i : BitVec 3} (read : i.getLsbD 1 = false) :
    lutEven w b i = sym (i.getLsbD 2) w b ++ sym (i.getLsbD 0) w b := by rw [lutEven, read]; rfl

theorem lutEven_of_bit1_set (w b : Symbol) {i : BitVec 3} (unread : i.getLsbD 1 = true) : lutEven w b i = 0 := by
  rw [lutEven, unread]; rfl

theorem lutOdd_of_bit1_clear (w b : Symbol) {i : BitVec 3} (read : i.getLsbD 1 = false) :
    lutOdd w b i = sym (i.getLsbD 0) w b ++ sym (i.getLsbD 2) w b := by rw [lutOdd, read]; rfl

theorem lutOdd_of_bit1_set (w b : Symbol) {i : BitVec 3} (unread : i.getLsbD 1 = true) : lutOdd w b i = 0 := by
  rw [lutOdd, unread]; rfl

theorem extractLut_or (x y : Word32) (i : BitVec 3) : extractLut (x ||| y) i = extractLut x i ||| extractLut y i := by
  simp only [extractLut, BitVec.ushiftRight_or_distrib, BitVec.setWidth_or]

/-- A nibble placed at entry `m` of a packed word is read back at index `m` and leaves the other entries 0. -/
theorem extractLut_nibble (a : Nibble) (i : BitVec 3) (m : Nat) :
    extractLut (a.setWidth 32 <<< (4 * m)) i = if i.toNat = m then a else 0 := by
  have hi := i.isLt
  refine BitVec.eq_of_getLsbD_eq fun j hj => ?_
  have bit : (extractLut (a.setWidth 32 <<< (4 * m)) i).getLsbD j
      = (!decide (i.toNat < m) && a.getLsbD (4 * i.toNat + j - 4 * m)) := by
    have inWord : 4 * i.toNat + j < 32 := by omega
    have start : 4 * i.toNat + j < 4 * m ↔ i.toNat < m := by omega
    simp [extractLut, hj, inWord, start]
  rw [bit]
  obtain before | rfl | after := Nat.lt_trichotomy i.toNat m
  · simp [before, before.ne]
  · simp
  · have past : 4 ≤ 4 * i.toNat + j - 4 * m := by omega
    simp [after.ne', BitVec.getLsbD_of_ge a _ past]

theorem extractLut_packLut_eq_or (t : BitVec 3 → Nibble) (i : BitVec 3) :
    extractLut (packLut t) i = (if i.toNat = 0 then t 0 else 0) ||| (if i.toNat = 1 then t 1 else 0)
      ||| (if i.toNat = 4 then t 4 else 0) ||| (if i.toNat = 5 then t 5 else 0) := by
  rw [← extractLut_nibble (t 0), ← extractLut_nibble (t 1), ← extractLut_nibble (t 4), ← extractLut_nibble (t 5),
    ← extractLut_or, ← extractLut_or, ← extractLut_or]
  simp [packLut]

/-- The indices the mask leaves are those of the packed entries. -/
theorem bit1_set_or_packed (i : BitVec 3) : i.getLsbD 1 = true ∨ i = 0 ∨ i = 1 ∨ i = 4 ∨ i = 5 := by
  revert i; decide

/-- The packed word gives back every entry of a table whose unread entries are 0. -/
theorem extractLut_packLut {t : BitVec 3 → Nibble} (unread : ∀ i : BitVec 3, i.getLsbD 1 = true → t i = 0)
    (i : BitVec 3) : extractLut (packLut t) i = t i := by
  rw [extractLut_packLut_eq_or]
  obtain bit1 | rfl | rfl | rfl | rfl := bit1_set_or_packed i
  · have absent : i.toNat ≠ 0 ∧ i.toNat ≠ 1 ∧ i.toNat ≠ 4 ∧ i.toNat ≠ 5 := by revert i; decide
    simp [unread i bit1, absent]
  all_goals simp

/-- Settles O31: both tables are 0 where they are never read, so each packed word gives its table back. -/
theorem lookupTables : Obligations.LookupTables := by
  refine ⟨fun w b => ⟨rfl, rfl, rfl, rfl, rfl, rfl, rfl, rfl, fun i => ?_⟩, rfl, rfl, maskIndex_bit1⟩
  refine ⟨?_, ?_, ?_, ?_⟩
  · exact extractLut_packLut (fun _ => lutEven_of_bit1_set w b) i
  · exact extractLut_packLut (fun _ => lutOdd_of_bit1_set w b) i
  · exact fun unread => ⟨lutEven_of_bit1_set w b unread, lutOdd_of_bit1_set w b unread⟩
  · exact fun read => ⟨lutEven_of_bit1_clear w b read, lutOdd_of_bit1_clear w b read⟩

/-! ### The full refresh -/

/-- The nibble at a masked index holds the pixels of bits `k + 2` and `k` in input order. -/
theorem lutEven_maskIndex (d : Byte) (k : Nat) (w b : Symbol) :
    lutEven w b (maskIndex d k) = sym (d.getLsbD (k + 2)) w b ++ sym (d.getLsbD k) w b := by
  rw [lutEven_of_bit1_clear w b (maskIndex_bit1 d k), maskIndex_bit2, maskIndex_bit0]

/-- The nibble at a masked index holds the pixels of bits `k` and `k + 2`, in reverse order. -/
theorem lutOdd_maskIndex (d : Byte) (k : Nat) (w b : Symbol) :
    lutOdd w b (maskIndex d k) = sym (d.getLsbD k) w b ++ sym (d.getLsbD (k + 2)) w b := by
  rw [lutOdd_of_bit1_clear w b (maskIndex_bit1 d k), maskIndex_bit2, maskIndex_bit0]

/-- Settles O29: a mapped byte is the two nibbles of two masked indices, and each nibble holds two pixels. -/
theorem fullMappingPlacement : Obligations.FullMappingPlacement := by
  intro d w b
  simp only [mapEven, mapOdd, lutEven_maskIndex, lutOdd_maskIndex]
  exact ⟨symbolAt_append .., symbolAt_append .., symbolAt_append .., symbolAt_append ..⟩

/-! ### The partial update -/

/-- The symbol of one pixel in a partial update: whether it changed, and its new value (41_pixel_mapper.md R170). -/
def changedNew (o n : Byte) (k : Nat) : Symbol := BitVec.ofBool ((o ^^^ n).getLsbD k) ++ BitVec.ofBool (n.getLsbD k)

/-- The even byte keeps the even pixels in input order. -/
theorem symbolAt_partialEven (o n : Byte) {k : Nat} (hk : k < 4) :
    symbolAt (partialEven o n) k = changedNew o n (2 * k) := by
  rw [symbolAt_eq_bits, changedNew]
  interval_cases k <;> simp [partialEven]

/-- The two swaps of the odd byte reverse its symbols (41_pixel_mapper.md R169). -/
theorem symbolAt_swaps (x : Byte) {k : Nat} (hk : k < 4) :
    symbolAt (swapNibbles (swapPairs x)) k = symbolAt x (3 - k) := by
  revert x k; decide

/-- The odd byte holds the odd pixels in reverse order. -/
theorem symbolAt_partialOdd (o n : Byte) {k : Nat} (hk : k < 4) :
    symbolAt (partialOdd o n) k = changedNew o n (7 - 2 * k) := by
  rw [partialOdd, symbolAt_swaps _ hk, symbolAt_eq_bits, changedNew]
  interval_cases k <;> simp

/-- A changed pixel gets the normal stage's symbol of its new value (41_pixel_mapper.md R167, R171). -/
theorem changedNew_compl (n : Byte) {k : Nat} (hk : k < 8) : changedNew (~~~n) n k = sym (n.getLsbD k) 2 3 := by
  have changed : (~~~n ^^^ n).getLsbD k = true := by simp [hk]
  rw [changedNew, changed]
  cases n.getLsbD k <;> rfl

/-- Settles O30: every symbol is `changedNew` of the pixel of the placement law, so where all pixels change the bytes have
the symbols that O29 gives for the normal stage. -/
theorem partialMappingPlacement : Obligations.PartialMappingPlacement := by
  intro o n p
  have even {k : Nat} (hk : k < 4) : symbolAt (partialEven o n) k = p (2 * k) := symbolAt_partialEven o n hk
  have odd {k : Nat} (hk : k < 4) : symbolAt (partialOdd o n) k = p (7 - 2 * k) := symbolAt_partialOdd o n hk
  refine ⟨⟨even (k := 3) (by decide), even (k := 2) (by decide), even (k := 1) (by decide), even (k := 0) (by decide)⟩,
    ⟨odd (k := 3) (by decide), odd (k := 2) (by decide), odd (k := 1) (by decide), odd (k := 0) (by decide)⟩, ?_⟩
  rintro rfl
  obtain ⟨⟨e3, e2, e1, e0⟩, ⟨o3, o2, o1, o0⟩, -⟩ := fullMappingPlacement n 2 3
  have normal {k : Nat} (hk : k < 8) : p k = sym (n.getLsbD k) 2 3 := changedNew_compl n hk
  constructor
  · rw [eq_append_symbolAt (partialEven _ n), eq_append_symbolAt (mapEven _ n 2 3), e3, e2, e1, e0]
    simp only [even, normal, Nat.reduceLT, Nat.reduceMul]
  · rw [eq_append_symbolAt (partialOdd _ n), eq_append_symbolAt (mapOdd _ n 2 3), o3, o2, o1, o0]
    simp only [odd, normal, Nat.reduceLT, Nat.reduceMul, Nat.reduceSub]

/-! ### The stages -/

/-- The mapped bytes of a full update's stage, whose number is `k`. -/
theorem mappedBytes_full {s : State} {k : Nat} (full : s.kind = .full) (stage : s.work.stage = k) (prev : FrameSource)
    (i : Nat) :
    evenByte s prev i = mapEven s.params.evenPhase (s.frameByte (stageSource prev k) i) (stageWhite k) (stageBlack k)
    ∧ oddByte s prev i = mapOdd s.params.evenPhase (s.frameByte (stageSource prev k) i) (stageWhite k) (stageBlack k) := by
  subst stage
  simp only [evenByte, oddByte, full, and_self]

theorem mappedBytes_partialPass {s : State} (pass : s.kind = .partialPass) (prev : FrameSource) (i : Nat) :
    evenByte s prev i = partialEven (s.frameByte prev i) (s.frameByte (.buffer newBase) i)
    ∧ oddByte s prev i = partialOdd (s.frameByte prev i) (s.frameByte (.buffer newBase) i) := by
  simp only [evenByte, oddByte, pass, and_self]

/-- Settles O33: the source and the symbol pair of each stage are the table of R167, evaluated at the stage's number. -/
theorem stageTable : Obligations.StageTable := fun _ prev i =>
  ⟨fun full stage => mappedBytes_full full stage prev i, fun full stage => mappedBytes_full full stage prev i,
    fun full stage => mappedBytes_full full stage prev i, fun full stage => mappedBytes_full full stage prev i,
    fun pass => mappedBytes_partialPass pass prev i⟩

/-! ### The scan sweep -/

/-- What R172 requires of the placement: each row has its byte and its pair in the sweep, no two rows the same. -/
theorem okFor_iff {p : ScanPlacement} {size : PanelSize} :
    p.okFor size = true ↔
      (∀ r < size.height, p.indexOf size r < size.scanBytes ∧ p.shiftOf r ∈ [0, 2, 4, 6])
      ∧ ∀ r < size.height, ∀ r' < size.height,
        p.indexOf size r = p.indexOf size r' → p.shiftOf r = p.shiftOf r' → r = r' := by
  simp only [ScanPlacement.okFor, Bool.and_eq_true, List.all_eq_true, List.mem_range, decide_eq_true_eq,
    List.nodup_map_iff_inj_on List.nodup_range, List.contains_iff_mem, Prod.mk.injEq, and_imp]

theorem scanByte_at_index (p : ScanPlacement) (size : PanelSize) (row : Nat) :
    scanByte p size row (p.indexOf size row) = p.pattern.setWidth 8 <<< p.shiftOf row := if_pos rfl

theorem scanByte_off_index {p : ScanPlacement} {size : PanelSize} {row j : Nat} (hj : j ≠ p.indexOf size row) :
    scanByte p size row j = 0 := if_neg hj

/-- A nonzero pattern stays nonzero in any pair of the byte. -/
theorem placed_ne_zero {pattern : BitVec 2} (nonzero : pattern ≠ 0) {k : Nat} (hk : k ∈ [0, 2, 4, 6]) :
    pattern.setWidth 8 <<< k ≠ 0 := by
  revert pattern k; decide

/-- A nonzero pattern makes different bytes in different pairs. -/
theorem placed_inj {pattern : BitVec 2} (nonzero : pattern ≠ 0) {k k' : Nat}
    (hk : k ∈ [0, 2, 4, 6]) (hk' : k' ∈ [0, 2, 4, 6])
    (same : pattern.setWidth 8 <<< k = pattern.setWidth 8 <<< k') : k = k' := by
  have table : ∀ q : BitVec 2, q ≠ 0 → ∀ k ∈ [0, 2, 4, 6], ∀ k' ∈ [0, 2, 4, 6],
      q.setWidth 8 <<< k = q.setWidth 8 <<< k' → k = k' := by decide
  exact table pattern nonzero k hk k' hk' same

/-- Settles O32: the one nonzero byte of a row stands at the row's index. There another row sends 0, or, where it has the
same index, the pattern in another pair. -/
theorem scanSelectsOneRow : Obligations.ScanSelectsOneRow := by
  intro p size ok nonzero r hr
  obtain ⟨placed, distinct⟩ := okFor_iff.mp ok
  obtain ⟨inSweep, pair⟩ := placed r hr
  have selects : scanByte p size r (p.indexOf size r) ≠ 0 := by
    rw [scanByte_at_index]; exact placed_ne_zero nonzero pair
  refine ⟨⟨p.indexOf size r, inSweep, selects, fun j' => not_imp_comm.mp scanByte_off_index⟩, fun r' hr' other => ?_⟩
  refine ⟨p.indexOf size r, inSweep, fun same => ?_⟩
  by_cases index : p.indexOf size r = p.indexOf size r'
  · rw [scanByte_at_index, index, scanByte_at_index] at same
    exact other (distinct r hr r' hr' index (placed_inj nonzero pair (placed r' hr').2 same)).symm
  · exact selects (same.trans (scanByte_off_index index))

end Sys2Proof.Machine
end

section
/-! Proofs of the family 42_power_sequencer.md. First the start of an update and VALIDATING (O16, O17) and the busy wait
(O24). -/

namespace Sys2Proof.Machine

/-- Settles O16. -/
theorem updateStarts : Obligations.UpdateStarts := fun _ _ => ⟨rfl, rfl⟩

/-! ### VALIDATING -/

/-- A running block with no host action takes the next step of its plan. -/
theorem step_op {s : State} {op : Op} {rest : List Op} (hs : s.blockRuns) (ht : s.todo = op :: rest) :
    step s = runOp op rest (s.plan rest) := by
  obtain ⟨hhost, hbusy, hpending⟩ := hs
  simp [step_of_no_host hhost, blockStep, hbusy, hpending, ht]

theorem complete_eq_ended {s : State} {code : ResultCode} (h : s.pending = false) : s.complete code = s.ended code := by
  simp [State.complete, State.ended, h]

/-- A rejected update ends its command at the next step, in OFF and with nothing else changed (42_power_sequencer.md R202). -/
theorem run_rejected {s : State} {code : ResultCode} (hs : s.blockRuns) (ht : s.todo = [.validate])
    (h : runValidate (s.plan []) = (s.plan []).rejectUpdate code) :
    run 2 s = .next (State.ended { s with fsm := .off } code) := by
  obtain ⟨-, -, hpending⟩ := id hs
  have hstep : step s = .next ((s.enter .off).plan [.complete code]) := (step_op hs ht).trans (congrArg _ h)
  have hend : step ((s.enter .off).plan [.complete code]) = .next (((s.enter .off).plan [.complete code]).complete code) :=
    step_complete hs rfl
  have hended : ((s.enter .off).plan [.complete code]).complete code = State.ended { s with fsm := .off } code :=
    complete_eq_ended hpending
  exact (run_succ_of_next hstep 1).trans ((run_succ_of_next hend 0).trans (congrArg _ hended))

/-- Settles O17. -/
theorem validationChecks : Obligations.ValidationChecks := by
  intro s hs ht
  refine ⟨fun hc => run_rejected hs ht (by simp [runValidate, hc]), fun c hc => ⟨fun hp => ?_, fun hp hb => ?_, ?_⟩⟩
  · have noPrev : (s.plan []).prevSource = none := hp
    exact run_rejected hs ht (by simp [runValidate, hc, noPrev])
  · obtain ⟨prev, hprev⟩ := Option.ne_none_iff_exists'.mp hp
    have somePrev : (s.plan []).prevSource = some prev := hprev
    exact run_rejected hs ht (by simp [runValidate, hc, somePrev, hb])
  · exact fun hp hb => (step_op hs ht).trans (congrArg _ (runValidate_ready (s := s.plan []) hc hp hb))

/-! ### The busy wait -/

theorem step_busyPoll {s : State} {c : DriverConfig} {rest : List Op} (hs : s.blockRuns) (hc : s.cfg = some c)
    (ht : s.todo = .busyPoll :: rest) : step s = .next (runBusyPoll c rest (s.plan rest)) :=
  (step_op hs ht).trans (withConfig_some hc _)

/-- `s` after one active poll, with these levels still to come from the peer. -/
def State.afterPoll (s : State) (c : DriverConfig) (more : List Level) : State :=
  { s with logRev := .wait 1 :: .get c.busy s.params.busyActive :: s.logRev, peer := { s.peer with levels := more } }

/-- One active poll: the pin is read, 1 ms passes, and the block is back at the busy wait (42_power_sequencer.md R207). -/
theorem run_active_poll {s : State} {c : DriverConfig} {rest : List Op} {more : List Level} (hs : s.blockRuns)
    (hc : s.cfg = some c) (ht : s.todo = .busyPoll :: rest) (active : s.peer.levels = s.params.busyActive :: more) :
    run 2 s = .next (s.afterPoll c more) := by
  have level : s.peer.nextLevel = s.params.busyActive := by rw [Peer.nextLevel, active]
  have poll : step s = .next (((s.plan rest).pinRead c.busy).plan (.delay 1 :: .busyPoll :: rest)) :=
    (step_busyPoll hs hc ht).trans (congrArg _ (if_pos level))
  have wait := step_op (s := ((s.plan rest).pinRead c.busy).plan (.delay 1 :: .busyPoll :: rest)) hs rfl
  have took : s.peer.tookLevel = { s.peer with levels := more } := by rw [Peer.tookLevel, active]
  refine (run_succ_of_next poll 1).trans ((run_succ_of_next wait 0).trans (congrArg _ ?_))
  simp [State.afterPoll, State.pinRead, State.plan, State.record, took, level, ht]

/-- Settles O24, by induction on the number of active polls. -/
theorem busyWaitUnbounded : Obligations.BusyWaitUnbounded := by
  intro s c rest hs hc ht
  refine ⟨fun n more => ?_, fun ready => (step_busyPoll hs hc ht).trans (congrArg _ (if_neg ready))⟩
  induction n generalizing s with
  | zero => exact fun hl => ⟨s, rfl, by simp [repeatLog], by rw [← show s.peer.levels = more from hl]⟩
  | succ n ih =>
    intro hl
    have poll := run_active_poll (more := List.replicate n s.params.busyActive ++ more) hs hc ht hl
    obtain ⟨t, runs, log, frame⟩ := ih (s := s.afterPoll c (List.replicate n s.params.busyActive ++ more)) hs hc ht rfl
    refine ⟨t, ?_, ?_, frame⟩
    · rw [Nat.mul_succ, Nat.add_comm, run_add poll, runs]
    · rw [log, repeatLog_succ]
      simp [State.afterPoll, State.outLog, State.log, Event.out]

end Sys2Proof.Machine
end

section
/-! What the transport log tells: the last level of every pin and the session flag are those of the events logged
(10_state.md R35, 40_transport.md R134). -/

namespace Sys2Proof.Machine

/-! ### Pins and session, read off the log -/

/-- The level last driven on the pin `q`, and the session flag. -/
abbrev Lines := Option Level × Bool

/-- What an event does to the pin `q` and the session. -/
def OutEvent.drives (q : PinId) (x : Lines) : OutEvent → Lines
  | .set p l => (if q = p then some l else x.1, x.2)
  | .begin _ => (x.1, true)
  | .finish => (x.1, false)
  | .sent _ | .dir _ _ | .get _ | .wait _ | .clock => x

/-- The level last driven on the pin `q`, and the session flag, of a state. -/
def State.lines (s : State) (q : PinId) : Lines := (sparseGet s.pins q, s.session)

/-- From `s` to `t` the events `out` were logged, and every pin and the session are as they say; the host has the same
actions left. -/
structure Tells (s t : State) (out : List OutEvent) : Prop where
  log : t.outLog = s.outLog ++ out
  lines : ∀ q, t.lines q = out.foldl (OutEvent.drives q) (s.lines q)
  host : t.host = s.host

section
variable {s t u : State} {out out' : List OutEvent}

theorem Tells.quiet (hlog : t.logRev = s.logRev) (hpins : t.pins = s.pins) (hsession : t.session = s.session)
    (hhost : t.host = s.host) : Tells s t [] where
  log := by simp [State.outLog, State.log, hlog]
  lines := fun q => by simp [State.lines, hpins, hsession]
  host := hhost

theorem Tells.event {e : Event} (hlog : t.logRev = e :: s.logRev) (hlines : ∀ q, t.lines q = e.out.drives q (s.lines q))
    (hhost : t.host = s.host) : Tells s t [e.out] where
  log := by simp [State.outLog, State.log, hlog]
  lines := hlines
  host := hhost

theorem Tells.trans (h : Tells s t out) (h' : Tells t u out') : Tells s u (out ++ out') where
  log := by rw [h'.log, h.log, List.append_assoc]
  lines := fun q => by rw [h'.lines, h.lines, List.foldl_append]
  host := h'.host.trans h.host

theorem Tells.then_quiet (h : Tells s t out) (hlog : u.logRev = t.logRev) (hpins : u.pins = t.pins)
    (hsession : u.session = t.session) (hhost : u.host = t.host) : Tells s u out := by
  simpa using h.trans (.quiet hlog hpins hsession hhost)

theorem Tells.after_quiet (h : Tells t u out) (hlog : t.logRev = s.logRev) (hpins : t.pins = s.pins)
    (hsession : t.session = s.session) (hhost : t.host = s.host) : Tells s u out :=
  (Tells.quiet hlog hpins hsession hhost).trans h

end

theorem pinWrite_tells (s : State) (p : PinId) (l : Level) : Tells s (s.pinWrite p l) [.set p l] := by
  refine .event (e := .set p l) rfl (fun q => ?_) rfl
  rw [State.lines, State.pinWrite_pins]
  by_cases same : q = p
  · rw [same, sparseGet_put_same]
    simp [State.lines, Event.out, OutEvent.drives]
  · rw [sparseGet_put_other _ _ same]
    simp [State.lines, Event.out, OutEvent.drives, same]

theorem frameRun_tells (s : State) (cs : PinId) (calls : List FrameCall) : ∃ out, Tells s (s.frameRun cs calls) out := by
  induction calls generalizing s with
  | nil => exact ⟨[], .quiet rfl rfl rfl rfl⟩
  | cons call calls ih =>
    obtain ⟨out, first⟩ : ∃ out, Tells s (State.frameCall cs s call) out := by
      cases call with
      | assert => exact ⟨_, pinWrite_tells ..⟩
      | exchange b => exact ⟨_, .event rfl (fun _ => rfl) rfl⟩
      | deassert => exact ⟨_, pinWrite_tells ..⟩
    obtain ⟨out', others⟩ := ih (State.frameCall cs s call)
    exact ⟨_, first.trans others⟩

theorem exec_tells {i : Instr} {s t : State} (h : exec i s = .next t) : ∃ out, Tells s t out := by
  cases hi : i.isFrame with
  | true =>
    obtain ⟨c, r, -, rfl⟩ := exec_frame_next hi h
    obtain ⟨out, sent⟩ := frameRun_tells s c.cs (frameCalls (frameBytes s.params.headers i))
    exact ⟨out, sent.then_quiet rfl rfl rfl rfl⟩
  | false =>
    obtain ⟨code, rfl⟩ | ⟨c, -, -, rfl⟩ | ⟨b, -, rfl⟩ | ⟨kind, ovr, rfl⟩ := exec_command_cases hi h <;>
      exact ⟨[], .quiet rfl rfl rfl rfl⟩

/-! ### Steps and runs -/

theorem stageGoesOn_tells {rest : List Op} {s u t : State} {out : List OutEvent} (h : StageGoesOn rest u t)
    (hu : Tells s u out) : Tells s t out := by
  rw [stageGoesOn_frame h]
  exact hu.then_quiet rfl rfl rfl rfl

theorem countSweep_tells (s : State) : Tells s s.countSweep [] := by
  rw [countSweep_frame]
  exact .quiet rfl rfl rfl rfl

theorem readClock_tells (s : State) : Tells s s.readClock [.clock] := .event (e := .clock _) rfl (fun _ => rfl) rfl

theorem runOp_tells {op : Op} {rest : List Op} {s t : State} (h : runOp op rest s = .next t) : ∃ out, Tells s t out := by
  cases op with
  | enter | chargeStart | renderStart | sweepStart | complete => cases h; exact ⟨[], .quiet rfl rfl rfl rfl⟩
  | pinDir | delay | sessionBegin | sessionEnd => cases h; exact ⟨_, .event rfl (fun _ => rfl) rfl⟩
  | pinWrite | csAssert | csDeassert => cases h; exact ⟨_, pinWrite_tells ..⟩
  | validate =>
    cases h
    obtain ⟨code, e⟩ | ⟨c, -, -, -, e⟩ := runValidate_cases s <;> (rw [e]; exact ⟨[], .quiet rfl rfl rfl rfl⟩)
  | send i => exact exec_tells h
  | busyPoll =>
    obtain ⟨c, -, e⟩ := withConfig_next h
    cases e
    obtain ⟨ops, e, -⟩ := runBusyPoll_cases c rest s
    rw [e]
    exact ⟨_, .event rfl (fun _ => rfl) rfl⟩
  | checkId | checkPanel | checkDc =>
    obtain ⟨c, -, rfl | ⟨code, rfl⟩ | ⟨-, rfl⟩⟩ := check_cases (by simp) h <;>
      exact ⟨[], .quiet rfl rfl rfl rfl⟩
  | stageStart =>
    obtain ⟨u, start, rfl | rfl, goesOn⟩ := runStageStart_cases h
    · exact ⟨[], stageGoesOn_tells goesOn (.quiet rfl rfl rfl rfl)⟩
    · exact ⟨_, stageGoesOn_tells goesOn ((readClock_tells s).then_quiet rfl rfl rfl rfl)⟩
  | sweepEnd =>
    obtain ⟨u, rfl | rfl, goesOn⟩ := runSweepEnd_cases h
    · exact ⟨[], stageGoesOn_tells goesOn (countSweep_tells s)⟩
    · exact ⟨_, stageGoesOn_tells goesOn ((countSweep_tells s).trans (readClock_tells _))⟩
  | rowStart | commit =>
    obtain ⟨c, -, e⟩ := withConfig_next h
    cases e
    exact ⟨[], .quiet rfl rfl rfl rfl⟩
  | exchange src =>
    obtain ⟨c, -, e⟩ := withConfig_next h
    obtain ⟨b, rf, i, -, -, rfl⟩ := runExchange_cases e
    exact ⟨_, .event rfl (fun _ => rfl) rfl⟩
  | rowEnd =>
    obtain ⟨c, -, e⟩ := withConfig_next h
    cases e
    obtain e | ⟨-, e⟩ := runRowEnd_cases c rest s <;> (rw [e]; exact ⟨[], .quiet rfl rfl rfl rfl⟩)

theorem blockStep_tells {s t : State} (h : blockStep s = .next t) : ∃ out, Tells s t out := by
  obtain ⟨-, e⟩ | ⟨-, -, e⟩ | ⟨-, -, -, e⟩ | ⟨op, rest, -, -, -, e⟩ := blockStep_cases s <;> rw [e] at h
  · cases h; exact ⟨[], .quiet rfl rfl rfl rfl⟩
  · obtain ⟨i, -, e⟩ | ⟨r, -, e⟩ := runCommand_cases s <;> rw [e] at h
    · obtain ⟨out, tells⟩ := exec_tells h
      exact ⟨out, tells.after_quiet rfl rfl rfl rfl⟩
    · cases h; exact ⟨[], .quiet rfl rfl rfl rfl⟩
  · cases h
  · obtain ⟨out, tells⟩ := runOp_tells h
    exact ⟨out, tells.after_quiet rfl rfl rfl rfl⟩

/-- With no host action left, the log of a run tells every pin's level and the session flag at its end. -/
theorem run_tells {s t : State} {n : Nat} (host : s.host = []) (h : run n s = .next t) : ∃ out, Tells s t out := by
  induction n generalizing s with
  | zero => cases h; exact ⟨[], .quiet rfl rfl rfl rfl⟩
  | succ n ih =>
    obtain ⟨u, first, others⟩ := core_run_succ_next Sys2Proof.core h
    obtain ⟨out, tells⟩ := blockStep_tells ((step_of_no_host host).symm.trans first)
    obtain ⟨out', tells'⟩ := ih (tells.host.trans host) others
    exact ⟨_, tells.trans tells'⟩

theorem lines_of_run {s t : State} {n : Nat} {out : List OutEvent} (host : s.host = []) (h : run n s = .next t)
    (log : t.outLog = s.outLog ++ out) (q : PinId) : t.lines q = out.foldl (OutEvent.drives q) (s.lines q) := by
  obtain ⟨out', tells⟩ := run_tells host h
  rw [tells.lines, List.append_cancel_left (tells.log.symm.trans log)]

end Sys2Proof.Machine
end

section
/-! The power-off (O23), the failing checks that lead to it (O21), and the charge-pump attempts (O22). -/

namespace Sys2Proof.Machine

/-! ### The program of the power-off -/

/-- The power-off up to the end of the session (42_power_sequencer.md R220). -/
def powerOffBefore (p : Params) (c : DriverConfig) : List Op :=
  borderOps c (fun b => [.pinWrite b false, .delay p.borderPulseMs, .pinWrite b true])
  ++ regWrite p.regs.oe p.values.oeOff ++ regWrite p.regs.latch p.values.latchReset
  ++ regWrite p.regs.chargePump p.values.cpDown0 ++ regWrite p.regs.chargePump p.values.cpDown1
  ++ regWrite p.regs.chargePump p.values.cpDown2
  ++ [.delay 300]
  ++ regWrite p.regs.discharge p.values.discharge ++ regWrite p.regs.osc p.values.oscOff

/-- The power-off after the end of the session (R220). -/
def powerOffAfter (c : DriverConfig) : List Op :=
  [.delay 50, .pinWrite c.panelOn false, .pinWrite c.reset false, .pinWrite c.cs false]
  ++ borderOps c (fun b => [.pinWrite b false])
  ++ [.pinWrite c.discharge true, .delay 150, .pinWrite c.discharge false]

theorem powerOffOps_eq (p : Params) (c : DriverConfig) (rest : List Op) :
    powerOffOps p c ++ rest =
      .enter .poweringOff :: (powerOffBefore p c ++ .sessionEnd :: (powerOffAfter c ++ .enter .off :: rest)) := by
  simp [powerOffOps, powerOffBefore, powerOffAfter]

theorem powerOffBefore_silent (p : Params) (c : DriverConfig) : ∀ op ∈ powerOffBefore p c, op.silent = true := by
  have border : ∀ op ∈ borderOps c (fun b => [.pinWrite b false, .delay p.borderPulseMs, .pinWrite b true]),
      op.silent = true := borderOps_forall (by simp [Op.silent])
  simpa [powerOffBefore, regWrite, Op.silent, or_imp, forall_and] using border

theorem powerOffAfter_silent (c : DriverConfig) : ∀ op ∈ powerOffAfter c, op.silent = true := by
  have border : ∀ op ∈ borderOps c (fun b => [.pinWrite b false]), op.silent = true :=
    borderOps_forall (by simp [Op.silent])
  simpa [powerOffAfter, Op.silent, or_imp, forall_and] using border

theorem powerOff_out (p : Params) (c : DriverConfig) :
    (powerOffBefore p c).flatMap (opOut p c.cs) ++ .finish :: (powerOffAfter c).flatMap (opOut p c.cs)
      = powerOffLog p c := by
  simp only [powerOffBefore, powerOffAfter, List.flatMap_append, regWrite_out, borderOps_out]
  simp [opOut, powerOffLog]

/-- An output pin of a configuration (42_power_sequencer.md R222). -/
def DriverConfig.Output (c : DriverConfig) (q : PinId) : Prop :=
  q = c.panelOn ∨ q = c.reset ∨ q = c.cs ∨ q = c.discharge ∨ (c.size = .large ∧ c.border = some q)

/-- The power-off closes the session and drives every output pin low last, a pin of several roles too: discharge alone is
driven high after the session, and low again (R220, R222). -/
theorem powerOffLog_drives (p : Params) (c : DriverConfig) (q : PinId) (x : Lines) :
    ((powerOffLog p c).foldl (OutEvent.drives q) x).2 = false
      ∧ (c.Output q → ((powerOffLog p c).foldl (OutEvent.drives q) x).1 = some false) := by
  rw [← powerOff_out, List.foldl_append]
  -- What was driven before the end of the session does not matter.
  generalize ((powerOffBefore p c).flatMap (opOut p c.cs)).foldl (OutEvent.drives q) x = y
  simp only [powerOffAfter, List.flatMap_append, borderOps_out]
  unfold DriverConfig.Output borderOut
  split
  · next b large border =>
    simp [opOut, OutEvent.drives, large, border]
    grind
  · next noBorder =>
    have notBorder : ¬ (c.size = .large ∧ c.border = some q) := fun ⟨large, border⟩ => noBorder q large border
    simp [opOut, OutEvent.drives, notBorder]
    grind

section
variable {p : Params} {c : DriverConfig} {f : Fsm} {rest : List Op} {w : Work} {s t : State} {n nb nl : Nat}
  {out : List OutEvent}

theorem phase_sessionEnd (hs : s.Stands p c f (.sessionEnd :: rest) w) :
    ∃ t, Phase f s t 1 [.finish] 0 0 ∧ t.Stands p c f rest w := by
  have h := Phase.one (out := [.finish]) (nb := 0) (nl := 0) hs.fsm hs.step_eq
    (by simp [State.outLog, State.log, Event.out]) (fun _ => rfl) (fun _ => rfl) rfl
  exact ⟨_, h, h.stands hs hs.fsm rfl hs.work⟩

/-- The power-off after its first step, which enters POWERING_OFF and logs nothing (R220). -/
theorem phase_powerOff (hs : s.Stands p c f (powerOffOps p c ++ rest) w) :
    ∃ v n t nb, Phase f s v 1 [] 0 0 ∧ v.fsm = .poweringOff ∧ Phase .poweringOff v t n (powerOffLog p c) nb 0
      ∧ t.Stands p c .off rest w := by
  rw [powerOffOps_eq] at hs
  obtain ⟨v, h₁, hv⟩ := phase_enter hs
  obtain ⟨x, h₂, hx⟩ := phase_silent_run (powerOffBefore_silent p c) hv
  obtain ⟨y, h₃, hy⟩ := phase_sessionEnd hx
  obtain ⟨z, h₄, hz⟩ := phase_silent_run (powerOffAfter_silent c) hy
  obtain ⟨t, h₅, ht⟩ := phase_enter hz
  exact ⟨v, _, t, _, h₁, hv.fsm, (((h₂.trans h₃).trans h₄).trans h₅).of_eq (by simp [← powerOff_out]) rfl rfl, ht⟩

/-- A state whose log ends with a whole power-off has the session closed and every output pin low. -/
theorem lines_of_powerOff {before : List OutEvent} (hs : s.blockRuns) (h : run n s = .next t)
    (log : t.outLog = s.outLog ++ (before ++ powerOffLog p c)) :
    t.session = false ∧ ∀ q, c.Output q → sparseGet t.pins q = some false := by
  obtain ⟨host, -, -⟩ := hs
  have told := lines_of_run host h log
  have drives := fun q => powerOffLog_drives p c q (before.foldl (OutEvent.drives q) (s.lines q))
  simp only [← List.foldl_append, ← told] at drives
  exact ⟨(drives 0).1, fun q => (drives q).2⟩

theorem Phase.step_eq (h : Phase f s t 1 out nb nl) : step s = .next t := by
  obtain ⟨u, first, done⟩ := core_run_succ_next Sys2Proof.core h.runs
  cases done
  exact first

end

/-- Settles O23: the phases of the power-off; its log tells the session and the pins. -/
theorem powerOffRuns : Obligations.PowerOffRuns := by
  intro s c rest hr hc ht
  have hs : s.Stands s.params c s.fsm (powerOffOps s.params c ++ rest) s.work := ⟨hr, rfl, hc, rfl, ht, rfl⟩
  have first : step s = .next ((s.plan _).enter .poweringOff) := (powerOffOps_eq s.params c rest ▸ hs).step_eq
  refine ⟨⟨_, first, rfl, rfl⟩, ?_⟩
  obtain ⟨v, n, t, nb, enters, -, off, stands⟩ := phase_powerOff hs
  have runs := (run_add enters.runs n).trans off.runs
  have log : t.outLog = s.outLog ++ powerOffLog s.params c := by rw [off.log, enters.log, List.append_nil]
  obtain ⟨closed, low⟩ := lines_of_powerOff (before := []) hr runs log
  have frame : OnlySequencer s t := by rw [off.frame, enters.frame]
  refine ⟨1 + n, t, runs, log, low, frame.trans ?_⟩
  rw [stands.fsm, closed, stands.todo, stands.work]

/-! ### Failing -/

section
variable {p : Params} {c : DriverConfig} {f : Fsm} {ops : List Op} {w : Work} {s₀ s : State} {n nb nl : Nat}
  {before : List OutEvent} {code : ResultCode}

/-- A check that fails at the end of a phase: FAILED with nothing logged, the whole power-off, the completion
(42_power_sequencer.md R218). -/
theorem failsWith_of_failUpdate (hr : s₀.blockRuns) (h : Phase f s₀ s n before nb nl) (hs : s.Stands p c f ops w)
    (hstep : step s = .next (s.failUpdate c code)) : FailsWith s₀ c before code := by
  have fails : Phase f s (s.failUpdate c code) 1 [] 0 0 :=
    .one hs.fsm hstep (by simp [State.outLog, State.log]) (fun _ => rfl) (fun _ => rfl) rfl
  have hu : (s.failUpdate c code).Stands p c .failed (powerOffOps p c ++ [.complete code]) w :=
    fails.stands hs rfl (by rw [← hs.params]; rfl) hs.work
  obtain ⟨v, m, t, nb', enters, powering, off, stands⟩ := phase_powerOff hu
  have ends : step t = .next (t.complete code) := step_complete stands.runs stands.todo
  have toFailed := (run_add h.runs 1).trans fails.runs
  have toOff := (run_add ((run_add toFailed 1).trans enters.runs) m).trans off.runs
  have log : (s.failUpdate c code).outLog = s₀.outLog ++ before := by rw [fails.log, h.log, List.append_nil]
  have log' : v.outLog = (s.failUpdate c code).outLog := by rw [enters.log, List.append_nil]
  have log'' : t.outLog = s₀.outLog ++ (before ++ powerOffLog p c) := by
    rw [off.log, log', log, List.append_assoc]
  obtain ⟨closed, -⟩ := lines_of_powerOff hr toOff log''
  have frame : OnlySequencer s₀ t := by rw [off.frame, enters.frame, fails.frame, h.frame]
  have params : s₀.params = p := by rw [← stands.params, frame]
  obtain ⟨-, -, settled⟩ := stands.runs
  refine ⟨n + 1, _, v, m + 1, t.complete code, toFailed, rfl, log, enters.step_eq, powering, log',
    (run_add off.runs 1).trans (run_succ_of_next ends 0), rfl, ⟨rfl, settled, rfl⟩, ⟨stands.fsm, closed⟩, ?_, ?_, ?_⟩
  · rw [params, List.append_assoc]
    exact log''
  · rw [State.complete_mem, State.complete_prevValid, frame]
    exact ⟨rfl, rfl⟩
  · rw [State.complete_cfg, State.complete_budget, State.complete_staging, State.complete_hostFault, frame]
    exact ⟨rfl, rfl, rfl, rfl⟩

end

/-- Settles O21: a check that passes changes only the plan, one that fails fails the update at once. -/
theorem powerUpChecks : Obligations.PowerUpChecks := by
  intro s c rest hr hc
  have fails : ∀ {op code}, s.todo = op :: rest → step s = .next (s.failUpdate c code) →
      (∃ u, step s = .next u ∧ u.fsm = .failed ∧ u.log = s.log) ∧ FailsWith s c [] code := fun ht hstep =>
    ⟨⟨_, hstep, rfl, rfl⟩, failsWith_of_failUpdate hr (.refl s.fsm s) ⟨hr, rfl, hc, rfl, ht, rfl⟩ hstep⟩
  refine ⟨fun ht => ?_, fun ht => ?_⟩
  · have hstep : step s = .next (runCheckId c rest (s.plan rest)) := (step_op hr ht).trans (withConfig_some hc _)
    exact ⟨fun ok => hstep.trans (congrArg _ (if_pos ok)), fun bad => fails ht (hstep.trans (congrArg _ (if_neg bad)))⟩
  · have hstep : step s = .next (runCheckPanel c rest (s.plan rest)) := (step_op hr ht).trans (withConfig_some hc _)
    exact ⟨fun ok => hstep.trans (congrArg _ (if_neg ok)), fun bad => fails ht (hstep.trans (congrArg _ (if_pos bad)))⟩

/-! ### Charge-pump attempts -/

section
variable {p : Params} {c : DriverConfig} {f : Fsm} {rest : List Op} {w : Work} {s : State}

theorem repeatLog_succ_last (n : Nat) (l : List OutEvent) : repeatLog (n + 1) l = repeatLog n l ++ l := by
  simp [repeatLog, List.replicate_succ']

/-- A DC/DC check that fails before the fourth attempt starts another (42_power_sequencer.md R215). -/
theorem phase_nextAttempt (hs : s.Stands p c f (.checkDc :: rest) w) (bad : w.statusByte &&& p.values.maskDcOk = 0)
    (left : w.attempt < 4) :
    ∃ t, Phase f s t 1 [] 0 0 ∧ t.Stands p c f (chargeAttemptOps p ++ rest) { w with attempt := w.attempt + 1 } := by
  refine phase_plan hs ?_
  obtain rfl := hs.params
  obtain rfl := hs.work
  rw [hs.step_eq, ← hs.fsm]
  exact (withConfig_some hs.cfg _).trans (congrArg _ ((if_neg (not_not.mpr bad)).trans (if_pos left)))

/-- CHARGING up to the check of attempt `j + 1`, the `j` attempts before it having failed (R215). -/
theorem phase_toCheckDc {j : Nat} (hs : s.Stands p c f (.chargeStart :: rest) w) (hj : j < 4)
    (bad : ∀ i < j, s.peer.byteAt (attemptByte i) &&& p.values.maskDcOk = 0) :
    ∃ n t, Phase f s t n (repeatLog (j + 1) (chargeAttemptLog p c)) (16 * (j + 1)) 0
      ∧ t.Stands p c f (.checkDc :: rest) { w with attempt := j + 1, statusByte := s.peer.byteAt (attemptByte j) } := by
  induction j with
  | zero =>
    have starts : step s = .next
        { s with fsm := f, todo := chargeAttemptOps p ++ rest, work := { w with attempt := 1 } } := by
      rw [hs.step_eq, ← hs.fsm, ← hs.work, ← hs.params]
      rfl
    obtain ⟨t, h, ht⟩ := phase_plan hs starts
    obtain ⟨n, u, h', hu⟩ := phase_attempt ht
    rw [h.bytes] at hu
    exact ⟨_, u, (h.trans h').of_eq (by simp [repeatLog]) rfl rfl, hu⟩
  | succ j ih =>
    obtain ⟨n, t, h, ht⟩ := ih (by omega) (fun i hi => bad i (by omega))
    obtain ⟨u, h', hu⟩ := phase_nextAttempt ht (bad j (by omega)) hj
    obtain ⟨m, v, h'', hv⟩ := phase_attempt hu
    have status : u.peer.byteAt 15 = s.peer.byteAt (attemptByte (j + 1)) := by
      rw [h'.bytes, h.bytes, attemptByte]; congr 1; omega
    rw [status] at hv
    exact ⟨_, v, ((h.trans h').trans h'').of_eq (by rw [repeatLog_succ_last (j + 1)]; simp) (by omega) rfl, hv⟩

/-- The fourth failing check fails the update (R217). -/
theorem step_fourthCheckDc (hr : s.blockRuns) (hc : s.cfg = some c) (ht : s.todo = .checkDc :: rest)
    (fourth : s.work.attempt = 4) (bad : s.work.statusByte &&& s.params.values.maskDcOk = 0) :
    step s = .next (s.failUpdate c .dcFail) :=
  (step_op hr ht).trans ((withConfig_some hc _).trans
    (congrArg _ ((if_neg (not_not.mpr bad)).trans (if_neg fourth.ge.not_gt))))

/-- The attempts neither open nor close the session. -/
theorem attempts_drive (q : PinId) (n : Nat) (x : Lines) :
    ((repeatLog n (chargeAttemptLog p c)).foldl (OutEvent.drives q) x).2 = x.2 := by
  induction n generalizing x with
  | zero => rfl
  | succ n ih =>
    rw [repeatLog_succ, List.foldl_append, ih]
    rfl

end

/-- Settles O22: CHARGING up to the check of the first good attempt, or of the fourth. -/
theorem chargingAttempts : Obligations.ChargingAttempts := by
  intro s c rest hr hc ht
  have hs : s.Stands s.params c s.fsm (.chargeStart :: rest) s.work := ⟨hr, rfl, hc, rfl, ht, rfl⟩
  refine ⟨fun j hj bad good => ?_, fun bad => ?_, fun u rest' hr hc ht fourth bad =>
    ⟨_, step_fourthCheckDc hr hc ht fourth bad, rfl, rfl⟩⟩
  · obtain ⟨n, t, h, stands⟩ := phase_toCheckDc hs hj bad
    have pass : t.work.statusByte &&& t.params.values.maskDcOk ≠ 0 := by rw [stands.work, stands.params]; exact good
    obtain ⟨v, h', hv⟩ := phase_check stands ((withConfig_some stands.cfg _).trans (congrArg _ (if_pos pass)))
    have total := h.trans h'
    rw [List.append_nil] at total
    obtain ⟨host, -, -⟩ := id hr
    have told := lines_of_run host total.runs total.log 0
    have session : v.session = s.session := (congrArg Prod.snd told).trans (attempts_drive ..)
    refine ⟨_, v, total.runs, hv.todo, total.log, hv.work, total.frame.trans ?_⟩
    rw [hv.fsm, session]
  · obtain ⟨n, t, h, stands⟩ := phase_toCheckDc hs (j := 3) (by omega) (fun i hi => bad i (by omega))
    have bad₄ : t.work.statusByte &&& t.params.values.maskDcOk = 0 := by
      rw [stands.work, stands.params]; exact bad 3 (by omega)
    exact failsWith_of_failUpdate hr h stands
      (step_fourthCheckDc stands.runs stands.cfg stands.todo (by rw [stands.work]) bad₄)

end Sys2Proof.Machine
end

section
/-! Proofs of the family 43_frame_renderer.md. First the commit (O41) and one exchange of a ROW frame (O34). -/

namespace Sys2Proof.Machine

/-! ### The commit -/

theorem step_commit {s : State} {c : DriverConfig} {rest : List Op} (hs : s.blockRuns) (hc : s.cfg = some c)
    (ht : s.todo = .commit :: rest) : step s = .next ((s.plan rest).commitPrev c.size) :=
  (step_op hs ht).trans (withConfig_some hc _)

theorem commitPrev_copies (s : State) (size : PanelSize) {i : Nat} (hi : i < size.frameBytes) :
    (s.commitPrev size).mem.read (prevBase + i) = some (s.bufferByte (newBase + i)) := by
  rw [commitPrev_read, if_pos (by omega), Nat.add_sub_cancel_left]

theorem commitPrev_outside (s : State) (size : PanelSize) {a : Nat}
    (outside : ¬ (prevBase ≤ a ∧ a < prevBase + size.frameBytes)) :
    (s.commitPrev size).mem.read a = s.mem.read a := by
  rw [commitPrev_read, if_neg outside]

/-- Settles O41. -/
theorem commitCopies : Obligations.CommitCopies := fun s c rest hs hc ht =>
  ⟨_, step_commit hs hc ht, fun _ hi => commitPrev_copies (s.plan rest) c.size hi,
    fun _ outside => commitPrev_outside (s.plan rest) c.size outside, rfl⟩

/-! ### One exchange of a ROW frame -/

/-- The byte an exchange of a ROW frame sends, from the buffers as they stand in `s` (43_frame_renderer.md R250). -/
def ByteSource.byte (s : State) (c : DriverConfig) (prev : FrameSource) : ByteSource → Byte
  | .const v => v
  | .even b => evenByte s prev (s.work.row * c.size.bytesPerLine + b)
  | .scan j => scanByte s.params.scan c.size s.work.row j
  | .odd b => oddByte s prev (s.work.row * c.size.bytesPerLine + b)

/-- The block offsets an exchange of a ROW frame reads: scan and constant bytes read nothing (R251, R253,
44_partial_updater.md R280). -/
def ByteSource.offsets (s : State) (c : DriverConfig) (prev : FrameSource) : ByteSource → List Nat
  | .const _ | .scan _ => []
  | .even b | .odd b => s.readsFor prev (s.work.row * c.size.bytesPerLine + b)

/-- `byteIx` after an exchange of a ROW frame (10_state.md R23; log entry 31). -/
def ByteSource.indexAfter (w : Work) : ByteSource → Nat
  | .const _ => w.byteIx
  | .even b | .scan b | .odd b => b

/-- One exchange of a ROW frame, whatever its byte comes from. -/
theorem runExchange_eq {s : State} {prev : FrameSource} (hp : s.prevSource = some prev) (c : DriverConfig)
    (src : ByteSource) :
    runExchange c src s = .next
      ((State.exchange { s with readFault := s.recordOf (src.offsets s c prev) } (src.byte s c prev)).atByte
        (src.indexAfter s.work)) := by
  cases src with
  | const v => rfl
  | scan j => rfl
  | even b => simp only [runExchange, hp, noteMappedRead_eq]; rfl
  | odd b => simp only [runExchange, hp, noteMappedRead_eq]; rfl

theorem step_exchange {s : State} {c : DriverConfig} {prev : FrameSource} {src : ByteSource} {rest : List Op}
    (hs : s.blockRuns) (hc : s.cfg = some c) (hp : s.prevSource = some prev) (ht : s.todo = .exchange src :: rest) :
    ∃ t, step s = .next t
      ∧ t.log = s.log ++ [.xchg (src.byte s c prev) (s.peer.byteAt 0)]
      ∧ t.readFault = s.recordOf (src.offsets s c prev)
      ∧ t = { s with
        todo := rest, logRev := t.logRev, peer := t.peer, work := { s.work with byteIx := src.indexAfter s.work },
        readFault := t.readFault } := by
  have runs := runExchange_eq (s := s.plan rest) hp c src
  exact ⟨_, (step_op hs ht).trans ((withConfig_some hc _).trans runs), log_exchange .., rfl, rfl⟩

/-- Settles O34: the four sources of a byte. -/
theorem rowBytesReadWhenSent : Obligations.RowBytesReadWhenSent := by
  intro s c prev b rest hs hc hp
  refine ⟨step_exchange hs hc hp, step_exchange hs hc hp, fun ht => ?_, fun v ht => ?_⟩
  · obtain ⟨t, steps, log, record, frame⟩ := step_exchange hs hc hp ht
    exact ⟨t, steps, log, by rw [frame, record]; rfl⟩
  · obtain ⟨t, steps, log, record, frame⟩ := step_exchange hs hc hp ht
    exact ⟨t, steps, log, by rw [frame, record]; rfl⟩

end Sys2Proof.Machine
end

section
/-! The row transmission (O35) and the sweep (O37): what a rendering that started at `s` did up to `t`, carried forward one
sequencer step at a time. -/

namespace Sys2Proof.Machine

/-! ### A rendering so far -/

/-- From `s` the block ran to `t`, and what it did on the way is a part of a rendering. -/
structure Renders (s t : State) (out : List OutEvent) (ops : List Op) (w : Work) (draws : Nat) : Prop
    extends Rendered s t out ops w draws where
  reaches : ∃ n, run n s = .next t

theorem outLog_cons {s t : State} {e : Event} (h : t.logRev = e :: s.logRev) : t.outLog = s.outLog ++ [e.out] := by
  simp [State.outLog, State.log, h]

theorem outLog_of_logRev_eq {s t : State} (h : t.logRev = s.logRev) : t.outLog = s.outLog ++ [] := by
  simp [State.outLog, State.log, h]

section
variable {s t u : State} {c : DriverConfig} {prev : FrameSource} {out out' : List OutEvent} {op : Op}
  {ops rest : List Op} {w w' : Work} {d d' : Nat}

theorem Renders.refl (s : State) : Renders s s [] s.todo s.work 0 where
  log := (List.append_nil _).symm
  todo := rfl
  work := rfl
  frame := rfl
  reaches := ⟨0, rfl⟩

theorem Renders.blockRuns (h : Renders s t out ops w d) (hs : s.blockRuns) : t.blockRuns := by rw [h.frame]; exact hs

theorem Renders.params (h : Renders s t out ops w d) : t.params = s.params := by rw [h.frame]

theorem Renders.cfg (h : Renders s t out ops w d) : t.cfg = s.cfg := by rw [h.frame]

theorem Renders.prevSource (h : Renders s t out ops w d) : t.prevSource = s.prevSource := by rw [h.frame]; rfl

/-- The bytes an exchange sends depend on the working registers, and on nothing else a rendering changes. -/
theorem Renders.byte (h : Renders s t out ops w d) (src : ByteSource) :
    src.byte t c prev = src.byte { s with work := w } c prev := by
  rw [h.frame, h.work]
  cases src <;> rfl

/-- One step more, which may draw free sweep counts. -/
theorem Renders.next_draws (h : Renders s t out (op :: rest) w d) (hs : s.blockRuns)
    (e : runOp op rest (t.plan rest) = .next u) (r : Rendered t u out' ops w' d') :
    Renders s u (out ++ out') ops w' (d + d') where
  log := by rw [r.log, h.log, List.append_assoc]
  todo := r.todo
  work := r.work
  frame := by rw [r.frame, h.frame, Nat.add_assoc]
  reaches := by
    obtain ⟨n, runs⟩ := h.reaches
    have steps : step t = .next u := (step_op (h.blockRuns hs) h.todo).trans e
    exact ⟨n + 1, (run_add runs 1).trans (run_succ_of_next steps 0)⟩

theorem Renders.next (h : Renders s t out (op :: rest) w d) (hs : s.blockRuns)
    (e : runOp op rest (t.plan rest) = .next u) (r : Rendered t u out' ops w' 0) : Renders s u (out ++ out') ops w' d :=
  h.next_draws hs e r

/-- One step more that logs nothing. -/
theorem Renders.next_quiet (h : Renders s t out (op :: rest) w d) (hs : s.blockRuns)
    (e : runOp op rest (t.plan rest) = .next u) (r : Rendered t u [] ops w' 0) : Renders s u out ops w' d := by
  simpa using h.next hs e r

/-! ### The steps of a row -/

theorem Renders.rowStart (hs : s.blockRuns) (hc : s.cfg = some c) (h : Renders s t out (.rowStart :: rest) w d) :
    ∃ u, Renders s u out (rowOps s.params c ++ rest) w d := by
  refine ⟨(t.plan rest).plan (rowOps t.params c ++ rest), h.next_quiet hs (withConfig_some (h.cfg.trans hc) _) ?_⟩
  exact ⟨outLog_of_logRev_eq rfl, by rw [← h.params]; rfl, h.work, rfl⟩

theorem Renders.pinWrite {p : PinId} {l : Level} (hs : s.blockRuns) (h : Renders s t out (op :: rest) w d)
    (e : runOp op rest (t.plan rest) = .next ((t.plan rest).pinWrite p l)) :
    ∃ u, Renders s u (out ++ [.set p l]) rest w d :=
  ⟨_, h.next hs e ⟨outLog_cons (e := .set p l) rfl, rfl, h.work, rfl⟩⟩

/-- A COG frame that returns no byte the block keeps. -/
theorem Renders.send {i : Instr} (hi : i.isFrame = true) (keeps : ∀ r w, workAfter r w i = w) (hs : s.blockRuns)
    (hc : s.cfg = some c) (h : Renders s t out (.send i :: rest) w d) :
    ∃ u, Renders s u (out ++ frameOut s.params c.cs (frameBytes s.params.headers i)) rest w d := by
  have e := exec_frame_configured hi (s := t.plan rest) (h.cfg.trans hc)
  rw [keeps, ← sendFrame_work (t.plan rest) c.cs (frameBytes (t.plan rest).params.headers i)] at e
  refine ⟨_, h.next hs e ⟨?_, ?_, ?_, ?_⟩⟩
  · rw [← h.params]; exact outLog_sendFrame ..
  · rw [sendFrame_frame]; rfl
  · rw [sendFrame_frame]; exact h.work
  · rw [sendFrame_frame]; rfl

theorem Renders.exchange {src : ByteSource} (hs : s.blockRuns) (hc : s.cfg = some c) (hp : s.prevSource = some prev)
    (h : Renders s t out (.exchange src :: rest) w d) :
    ∃ u, Renders s u (out ++ [.sent (src.byte { s with work := w } c prev)]) rest w d := by
  have e := (withConfig_some (h.cfg.trans hc) fun c => runExchange c src (t.plan rest)).trans
    (runExchange_eq (s := t.plan rest) (h.prevSource.trans hp) c src)
  have work := congrArg (fun x : Work => { x with byteIx := src.indexAfter t.work }) h.work
  refine ⟨_, h.next hs e ⟨?_, rfl, work, rfl⟩⟩
  rw [← h.byte]
  exact outLog_cons (e := .xchg (src.byte t c prev) (t.peer.byteAt 0)) rfl

theorem Renders.exchanges (srcs : List ByteSource) (hs : s.blockRuns) (hc : s.cfg = some c)
    (hp : s.prevSource = some prev) (h : Renders s t out (srcs.map .exchange ++ rest) w d) :
    ∃ u, Renders s u (out ++ (srcs.map (ByteSource.byte { s with work := w } c prev)).map .sent) rest w d := by
  induction srcs generalizing t out with
  | nil => exact ⟨t, by simpa using h⟩
  | cons src srcs ih =>
    obtain ⟨u, first⟩ := Renders.exchange hs hc hp h
    obtain ⟨v, others⟩ := ih first
    exact ⟨v, by simpa using others⟩

end

/-! ### Rows and sweeps -/

/-- The log of a transmission of the row that the working registers `w` name, in their stage, over the frames of `s`. -/
def rowLogAt (s : State) (c : DriverConfig) (prev : FrameSource) (w : Work) : List OutEvent :=
  rowLog s.params c w.row (fun b => evenByte { s with work := w } prev (w.row * c.size.bytesPerLine + b))
    (fun b => oddByte { s with work := w } prev (w.row * c.size.bytesPerLine + b))

theorem sweepLog_eq (s : State) (c : DriverConfig) (prev : FrameSource) (w : Work) :
    sweepLog s c prev s.kind w.stage
      = ((List.range c.size.height).map fun row => rowLogAt s c prev { w with row := row }).flatten := rfl

/-- The exchanges of a ROW frame send its bytes (30_encoding.md R99). -/
theorem rowSources_bytes (s : State) (c : DriverConfig) (prev : FrameSource) :
    (rowSources s.params c.size).map (ByteSource.byte s c prev)
      = rowFrameBytes s.params c.size s.work.row
        (fun b => evenByte s prev (s.work.row * c.size.bytesPerLine + b))
        (fun b => oddByte s prev (s.work.row * c.size.bytesPerLine + b)) := by
  simp only [rowSources, rowFrameBytes, List.map_append, List.map_map, apply_ite (List.map _)]
  rfl

section
variable {s t : State} {c : DriverConfig} {prev : FrameSource} {out : List OutEvent} {rest : List Op} {w : Work} {d : Nat}

/-- One row transmission (43_frame_renderer.md R250). -/
theorem Renders.row (hs : s.blockRuns) (hc : s.cfg = some c) (hp : s.prevSource = some prev)
    (h : Renders s t out (.rowStart :: rest) w d) :
    ∃ u, Renders s u (out ++ rowLogAt s c prev w) (.rowEnd :: rest) w d := by
  obtain ⟨t₁, h₁⟩ := Renders.rowStart hs hc h
  simp only [rowOps, regWrite, List.append_assoc, List.cons_append, List.nil_append] at h₁
  obtain ⟨t₂, h₂⟩ := Renders.send rfl (fun _ _ => rfl) hs hc h₁
  obtain ⟨t₃, h₃⟩ := Renders.pinWrite hs h₂ rfl
  obtain ⟨t₄, h₄⟩ := Renders.exchanges (rowSources s.params c.size) hs hc hp h₃
  obtain ⟨t₅, h₅⟩ := Renders.pinWrite hs h₄ rfl
  obtain ⟨t₆, h₆⟩ := Renders.send rfl (fun _ _ => rfl) hs hc h₅
  obtain ⟨u, h₇⟩ := Renders.send rfl (fun _ _ => rfl) hs hc h₆
  refine ⟨u, ?_⟩
  have bytes := rowSources_bytes { s with work := w } c prev
  simpa [h₂.params, h₄.params, bytes, rowLogAt, rowLog, regWriteOut, frameOut, frameBytes, encode] using h₇

end

/-- Settles O35. -/
theorem rowTransmission : Obligations.RowTransmission := by
  intro s c prev rest hs hc hp ht
  obtain ⟨t, h⟩ := Renders.row hs hc hp (ht ▸ Renders.refl s)
  obtain ⟨k, runs⟩ := h.reaches
  exact ⟨k, t, runs, h.toRendered⟩

section
variable {s t : State} {c : DriverConfig} {prev : FrameSource} {out : List OutEvent} {rest : List Op} {w : Work} {d : Nat}

theorem Renders.firstRow (hs : s.blockRuns) (h : Renders s t out (.sweepStart :: rest) w d) :
    ∃ u, Renders s u out (.rowStart :: rest) { w with row := 0 } d := by
  have work := congrArg (fun x : Work => { x with row := 0 }) h.work
  exact ⟨_, h.next_quiet hs rfl ⟨outLog_of_logRev_eq rfl, rfl, work, rfl⟩⟩

theorem Renders.nextRow (hs : s.blockRuns) (hc : s.cfg = some c) (h : Renders s t out (.rowEnd :: rest) w d)
    (more : w.row + 1 < c.size.height) :
    ∃ u, Renders s u out (.rowStart :: rest) { w with row := w.row + 1 } d := by
  have row : t.work.row = w.row := by rw [h.work]
  have e : runOp .rowEnd rest (t.plan rest) = .next _ :=
    (withConfig_some (h.cfg.trans hc) _).trans (congrArg _ (if_pos (row ▸ more)))
  have work := congrArg (fun x : Work => { x with row := x.row + 1 }) h.work
  exact ⟨_, h.next_quiet hs e ⟨outLog_of_logRev_eq rfl, rfl, work, rfl⟩⟩

theorem Renders.lastRow (hs : s.blockRuns) (hc : s.cfg = some c) (h : Renders s t out (.rowEnd :: rest) w d)
    (last : w.row + 1 = c.size.height) : ∃ u, Renders s u out (.sweepEnd :: rest) w d := by
  have row : t.work.row = w.row := by rw [h.work]
  have e : runOp .rowEnd rest (t.plan rest) = .next _ :=
    (withConfig_some (h.cfg.trans hc) _).trans (congrArg _ (if_neg (by simp only [State.plan_work]; omega)))
  exact ⟨_, h.next_quiet hs e ⟨outLog_of_logRev_eq rfl, rfl, h.work, rfl⟩⟩

/-- The rows from the current one on, `more` of them after it (R252). -/
theorem Renders.rows {more : Nat} (hs : s.blockRuns) (hc : s.cfg = some c) (hp : s.prevSource = some prev)
    (h : Renders s t out (.rowStart :: rest) w d) (last : w.row + more + 1 = c.size.height) :
    ∃ u, Renders s u
      (out ++ ((List.range' w.row (more + 1)).map fun row => rowLogAt s c prev { w with row := row }).flatten)
      (.sweepEnd :: rest) { w with row := c.size.height - 1 } d := by
  induction more generalizing t out w with
  | zero =>
    obtain ⟨t₁, h₁⟩ := Renders.row hs hc hp h
    obtain ⟨u, h₂⟩ := Renders.lastRow hs hc h₁ last
    exact ⟨u, by simpa [← last] using h₂⟩
  | succ more ih =>
    obtain ⟨t₁, h₁⟩ := Renders.row hs hc hp h
    obtain ⟨t₂, h₂⟩ := Renders.nextRow hs hc h₁ (by omega)
    obtain ⟨u, h₃⟩ := ih h₂ (by change w.row + 1 + more + 1 = _; omega)
    exact ⟨u, by simpa [List.range'_succ] using h₃⟩

/-- One sweep (R252). -/
theorem Renders.sweep (hs : s.blockRuns) (hc : s.cfg = some c) (hp : s.prevSource = some prev)
    (h : Renders s t out (.sweepStart :: rest) w d) :
    ∃ u, Renders s u (out ++ sweepLog s c prev s.kind w.stage) (.sweepEnd :: rest)
      { w with row := c.size.height - 1 } d := by
  obtain ⟨t₁, first⟩ := Renders.firstRow hs h
  have height : 0 + (c.size.height - 1) + 1 = c.size.height := by cases c.size <;> rfl
  obtain ⟨u, rows⟩ := Renders.rows hs hc hp first height
  refine ⟨u, ?_⟩
  rw [sweepLog_eq]
  rwa [← List.range_eq_range', show c.size.height - 1 + 1 = c.size.height by omega] at rows

end

/-- Settles O37. -/
theorem sweepAscending : Obligations.SweepAscending := by
  intro s c prev rest hs hc hp ht
  obtain ⟨t, h⟩ := Renders.sweep hs hc hp (ht ▸ Renders.refl s)
  obtain ⟨k, runs⟩ := h.reaches
  exact ⟨k, t, runs, h.toRendered⟩

end Sys2Proof.Machine
end

section
/-! What the transport log tells of the clock: a run moves the peer's readings on by as many as it logs
(40_transport.md R131). -/

namespace Sys2Proof.Machine

/-! ### The readings of the peer -/

/-- The readings to come do not depend on the bytes and levels to come. -/
theorem nowAt_otherAnswers (p : Peer) (bytes : List Byte) (levels : List Level) (freeBytes freeLevels k : Nat) :
    Peer.nowAt { p with bytes := bytes, levels := levels, freeBytes := freeBytes, freeLevels := freeLevels } k
      = p.nowAt k := by
  induction k generalizing p with
  | zero => rfl
  | succ k ih =>
    rw [Peer.nowAt, Peer.nowAt, ← ih p.tookNow]
    obtain ⟨_, _, ticks, _, _, _, _⟩ := p
    cases ticks <;> rfl

theorem nowAt_tookByte (p : Peer) (k : Nat) : p.tookByte.nowAt k = p.nowAt k := by
  unfold Peer.tookByte
  split <;> exact nowAt_otherAnswers ..

theorem nowAt_tookLevel (p : Peer) (k : Nat) : p.tookLevel.nowAt k = p.nowAt k := by
  unfold Peer.tookLevel
  split <;> exact nowAt_otherAnswers ..

/-! ### Readings logged -/

/-- How many clock readings a state's log has. -/
def State.readings (s : State) : Nat := s.outLog.count .clock

/-- From `s` to `t` the clock was read `n` times and each reading logged; the host has the same actions left. -/
structure Ticks (s t : State) (n : Nat) : Prop where
  log : t.readings = s.readings + n
  now : ∀ k, t.peer.nowAt k = s.peer.nowAt (k + n)
  host : t.host = s.host

section
variable {s t u : State} {n m : Nat}

theorem Ticks.quiet (hlog : t.logRev = s.logRev) (hpeer : t.peer = s.peer) (hhost : t.host = s.host) : Ticks s t 0 where
  log := by simp [State.readings, State.outLog, State.log, hlog]
  now := fun _ => by rw [hpeer]; rfl
  host := hhost

/-- One event that is no clock reading. -/
theorem Ticks.event {e : Event} (he : e.out ≠ .clock) (hlog : t.logRev = e :: s.logRev)
    (hnow : ∀ k, t.peer.nowAt k = s.peer.nowAt k) (hhost : t.host = s.host) : Ticks s t 0 where
  log := by rw [State.readings, outLog_cons hlog, List.count_append, List.count_singleton, if_neg (by simpa using he)]; rfl
  now := hnow
  host := hhost

theorem Ticks.trans (h : Ticks s t n) (h' : Ticks t u m) : Ticks s u (n + m) where
  log := by rw [h'.log, h.log, Nat.add_assoc]
  now := fun k => by rw [h'.now, h.now]; congr 1; omega
  host := h'.host.trans h.host

theorem Ticks.then_quiet (h : Ticks s t n) (hlog : u.logRev = t.logRev) (hpeer : u.peer = t.peer)
    (hhost : u.host = t.host) : Ticks s u n := h.trans (.quiet hlog hpeer hhost)

theorem Ticks.after_quiet (h : Ticks t u n) (hlog : t.logRev = s.logRev) (hpeer : t.peer = s.peer)
    (hhost : t.host = s.host) : Ticks s u n := by
  simpa using (Ticks.quiet hlog hpeer hhost).trans h

theorem Ticks.readClock (s : State) : Ticks s s.readClock 1 where
  log := by rw [State.readings, outLog_cons (e := .clock s.peer.nextNow) rfl, List.count_append]; rfl
  now := fun _ => rfl
  host := rfl

end

/-! ### Instructions and steps -/

theorem frameRun_ticks (s : State) (cs : PinId) (calls : List FrameCall) : Ticks s (s.frameRun cs calls) 0 := by
  induction calls generalizing s with
  | nil => exact .quiet rfl rfl rfl
  | cons call calls ih =>
    have first : Ticks s (State.frameCall cs s call) 0 := by
      cases call with
      | assert | deassert => exact .event (e := .set ..) nofun rfl (fun _ => rfl) rfl
      | exchange b => exact .event (e := .xchg ..) nofun rfl (nowAt_tookByte _) rfl
    exact first.trans (ih _)

theorem exec_ticks {i : Instr} {s t : State} (h : exec i s = .next t) : Ticks s t 0 := by
  cases hi : i.isFrame with
  | true =>
    obtain ⟨c, r, -, rfl⟩ := exec_frame_next hi h
    exact (frameRun_ticks s c.cs (frameCalls (frameBytes s.params.headers i))).then_quiet rfl rfl rfl
  | false =>
    obtain ⟨code, rfl⟩ | ⟨c, -, -, rfl⟩ | ⟨b, -, rfl⟩ | ⟨kind, ovr, rfl⟩ := exec_command_cases hi h <;>
      exact .quiet rfl rfl rfl

theorem stageGoesOn_ticks {rest : List Op} {s u t : State} {n : Nat} (h : StageGoesOn rest u t) (hu : Ticks s u n) :
    Ticks s t n := by
  rw [stageGoesOn_frame h]
  exact hu.then_quiet rfl rfl rfl

theorem countSweep_ticks (s : State) : Ticks s s.countSweep 0 := by
  rw [countSweep_frame]
  exact .quiet rfl rfl rfl

theorem runOp_ticks {op : Op} {rest : List Op} {s t : State} (h : runOp op rest s = .next t) : ∃ n, Ticks s t n := by
  cases op with
  | enter | chargeStart | renderStart | sweepStart | complete => cases h; exact ⟨0, .quiet rfl rfl rfl⟩
  | pinDir | pinWrite | delay | sessionBegin | sessionEnd | csAssert | csDeassert =>
    cases h
    exact ⟨0, .event (by nofun) rfl (fun _ => rfl) rfl⟩
  | validate =>
    cases h
    obtain ⟨code, e⟩ | ⟨c, -, -, -, e⟩ := runValidate_cases s <;> (rw [e]; exact ⟨0, .quiet rfl rfl rfl⟩)
  | send i => exact ⟨0, exec_ticks h⟩
  | busyPoll =>
    obtain ⟨c, -, e⟩ := withConfig_next h
    cases e
    obtain ⟨ops, e, -⟩ := runBusyPoll_cases c rest s
    rw [e]
    exact ⟨0, .event (by nofun) rfl (nowAt_tookLevel _) rfl⟩
  | checkId | checkPanel | checkDc =>
    obtain ⟨c, -, rfl | ⟨code, rfl⟩ | ⟨-, rfl⟩⟩ := check_cases (by simp) h <;> exact ⟨0, .quiet rfl rfl rfl⟩
  | stageStart =>
    obtain ⟨u, start, rfl | rfl, goesOn⟩ := runStageStart_cases h
    · exact ⟨0, stageGoesOn_ticks goesOn (.quiet rfl rfl rfl)⟩
    · exact ⟨1, stageGoesOn_ticks goesOn ((Ticks.readClock s).then_quiet rfl rfl rfl)⟩
  | sweepEnd =>
    obtain ⟨u, rfl | rfl, goesOn⟩ := runSweepEnd_cases h
    · exact ⟨0, stageGoesOn_ticks goesOn (countSweep_ticks s)⟩
    · exact ⟨0 + 1, stageGoesOn_ticks goesOn ((countSweep_ticks s).trans (.readClock _))⟩
  | rowStart | commit =>
    obtain ⟨c, -, e⟩ := withConfig_next h
    cases e
    exact ⟨0, .quiet rfl rfl rfl⟩
  | exchange src =>
    obtain ⟨c, -, e⟩ := withConfig_next h
    obtain ⟨b, rf, i, -, -, rfl⟩ := runExchange_cases e
    exact ⟨0, .event (by nofun) rfl (nowAt_tookByte _) rfl⟩
  | rowEnd =>
    obtain ⟨c, -, e⟩ := withConfig_next h
    cases e
    obtain e | ⟨-, e⟩ := runRowEnd_cases c rest s <;> (rw [e]; exact ⟨0, .quiet rfl rfl rfl⟩)

theorem blockStep_ticks {s t : State} (h : blockStep s = .next t) : ∃ n, Ticks s t n := by
  obtain ⟨-, e⟩ | ⟨-, -, e⟩ | ⟨-, -, -, e⟩ | ⟨op, rest, -, -, -, e⟩ := blockStep_cases s <;> rw [e] at h
  · cases h; exact ⟨0, .quiet rfl rfl rfl⟩
  · obtain ⟨i, -, e⟩ | ⟨r, -, e⟩ := runCommand_cases s <;> rw [e] at h
    · exact ⟨0, (exec_ticks h).after_quiet rfl rfl rfl⟩
    · cases h; exact ⟨0, .quiet rfl rfl rfl⟩
  · cases h
  · obtain ⟨n, ticks⟩ := runOp_ticks h
    exact ⟨n, ticks.after_quiet rfl rfl rfl⟩

/-! ### Runs -/

theorem run_ticks {s t : State} {k : Nat} (host : s.host = []) (h : run k s = .next t) : ∃ n, Ticks s t n := by
  induction k generalizing s with
  | zero => cases h; exact ⟨0, .quiet rfl rfl rfl⟩
  | succ k ih =>
    obtain ⟨u, first, others⟩ := core_run_succ_next Sys2Proof.core h
    obtain ⟨n, ticks⟩ := blockStep_ticks ((step_of_no_host host).symm.trans first)
    obtain ⟨m, ticks'⟩ := ih (ticks.host.trans host) others
    exact ⟨_, ticks.trans ticks'⟩

/-- With no host action left, a run that logs `out` leaves the readings after those in `out`. -/
theorem nowAt_of_run {s t : State} {k : Nat} {out : List OutEvent} (host : s.host = []) (h : run k s = .next t)
    (log : t.outLog = s.outLog ++ out) (j : Nat) : t.peer.nowAt j = s.peer.nowAt (j + out.count .clock) := by
  obtain ⟨n, ticks⟩ := run_ticks host h
  have count : s.readings + out.count .clock = s.readings + n := by
    rw [← ticks.log, State.readings, State.readings, log, List.count_append]
  rw [ticks.now, Nat.add_left_cancel count]

theorem Renders.nowAt {s t : State} {out : List OutEvent} {ops : List Op} {w : Work} {d : Nat}
    (h : Renders s t out ops w d) (hs : s.blockRuns) (j : Nat) :
    t.peer.nowAt j = s.peer.nowAt (j + out.count .clock) := by
  obtain ⟨k, runs⟩ := h.reaches
  obtain ⟨host, -, -⟩ := hs
  exact nowAt_of_run host runs h.log j

end Sys2Proof.Machine
end

section
/-! The stages of a rendering and their repetition (45_timing_policy.md R307 to R310), and the four stages of a full update
(43_frame_renderer.md R254). -/

namespace Sys2Proof.Machine

/-! ### Counting a sweep, reading the clock, ending a stage -/

/-- What counting a sweep leaves: the count in its 31 bits and no draw, or a drawn count (10_state.md R23). -/
theorem countSweep_eq (s : State) : ∃ q e, q < 2 ^ 31 ∧ (s.work.sweep + 1 < 2 ^ 31 → q = s.work.sweep + 1 ∧ e = 0)
    ∧ s.countSweep = { s with work := { s.work with sweep := q }, freeSweeps := s.freeSweeps + e } := by
  obtain ⟨lt, e⟩ | ⟨ge, v, e⟩ := countSweep_cases s
  · exact ⟨_, 0, lt, fun _ => ⟨rfl, rfl⟩, e⟩
  · exact ⟨_, 1, v.isLt, fun lt => absurd lt (by omega), e⟩

theorem stageGoal_countSweep (s : State) : s.countSweep.stageGoal = s.stageGoal := by
  obtain ⟨q, e, -, -, eq⟩ := countSweep_eq s
  rw [eq]; rfl

theorem partialPass_or_full (kind : UpdateKind) : kind = .partialPass ∨ kind = .full := by
  cases kind with
  | partialPass => exact .inl rfl
  | full => exact .inr rfl

theorem stageRest_full {s : State} (full : s.kind = .full) (rest : List Op) :
    stageRest s rest = if s.work.stage < 3 then .stageStart :: rest else rest := by
  simp only [stageRest, full]

/-- The end of a stage whose registers hold `n` sweeps, the last of `h` rows and the start time `start`. -/
theorem stageDone_eq {s : State} {h n start : Nat} (rest : List Op) (sweep : s.work.sweep = n) (row : s.work.row = h - 1)
    (tStart : s.work.tStart = start) :
    s.stageDone rest = { s with todo := stageRest s rest, work := stageWork s h n start } := by
  subst sweep tStart
  obtain pass | full := partialPass_or_full s.kind
  · have done : s.stageDone rest = s.plan rest := by simp only [State.stageDone, pass]
    have ops : stageRest s rest = rest := by simp only [stageRest, pass]
    have work : stageWork s h s.work.sweep s.work.tStart = s.work := by simp only [stageWork, pass, ← row]
    rw [done, ops, work]; rfl
  · rw [stageRest_full full]
    by_cases more : s.work.stage < 3
    · simp only [State.stageDone, stageWork, full, if_pos more, ← row]
    · have done : s.stageDone rest = s.plan rest := by simp only [State.stageDone, full, if_neg more]
      have work : stageWork s h s.work.sweep s.work.tStart = s.work := by
        simp only [stageWork, full, if_neg more, ← row]
      rw [done, work, if_neg more]; rfl

/-- What a stage leaves in the working registers does not depend on `byteIx`, which it leaves as it is. -/
theorem stageWork_byteIx (s : State) (w : Work) (b h n start : Nat) :
    stageWork { s with work := { w with byteIx := b } } h n start
      = { stageWork { s with work := w } h n start with byteIx := b } := by
  unfold stageWork
  dsimp only
  split
  · rfl
  · split <;> rfl

section
variable {t u : State} {out : List OutEvent} {ops : List Op} {w : Work} {d : Nat}

theorem Rendered.plan (r : Rendered t u out ops w d) (ops' : List Op) : Rendered t (u.plan ops') out ops' w d where
  log := r.log
  todo := rfl
  work := r.work
  frame := by rw [r.frame]; rfl

theorem Rendered.readClock (r : Rendered t u out ops w d) : Rendered t u.readClock (out ++ [.clock]) ops w d where
  log := by rw [outLog_cons (e := .clock u.peer.nextNow) rfl, r.log, List.append_assoc]; rfl
  todo := r.todo
  work := r.work
  frame := by rw [r.frame]; rfl

theorem Rendered.stageDone {h : Nat} (r : Rendered t u out ops w d) (rest : List Op) (row : w.row = h - 1) :
    Rendered t (u.stageDone rest) out (stageRest { t with work := w } rest)
      (stageWork { t with work := w } h w.sweep w.tStart) d := by
  have work : stageWork u h w.sweep w.tStart
      = { stageWork { t with work := w } h w.sweep w.tStart with byteIx := u.work.byteIx } := by
    rw [← stageWork_byteIx, r.frame, r.work]; rfl
  rw [stageDone_eq rest (h := h) (n := w.sweep) (start := w.tStart) (by rw [r.work]) (by rw [r.work]; exact row)
    (by rw [r.work])]
  exact
    { log := r.log
      todo := by rw [r.frame, r.work]; rfl
      work := by rw [work]
      frame := by rw [r.frame] }

end

/-! ### The steps of a stage -/

theorem runStageStart_sweeps {s : State} {n : Nat} (rest : List Op) (goal : s.stageGoal = some (.sweeps n))
    (pos : n ≠ 0) :
    runStageStart rest s = .next (State.plan { s with work := { s.work with sweep := 0 } } (.sweepStart :: rest)) := by
  simp only [runStageStart, goal, if_neg pos]

theorem runStageStart_elapsed {s : State} {ms : Nat} (rest : List Op) (goal : s.stageGoal = some (.elapsed ms)) :
    runStageStart rest s = .next
      (State.plan { s.readClock with work := { s.work with sweep := 0, tStart := s.peer.nextNow } }
        (.sweepStart :: rest)) := by
  simp only [runStageStart, goal]; rfl

theorem runSweepEnd_sweeps {s : State} {n : Nat} (rest : List Op) (goal : s.stageGoal = some (.sweeps n)) :
    runSweepEnd rest s = .next
      (if s.countSweep.work.sweep < n then s.countSweep.plan (.sweepStart :: rest) else s.countSweep.stageDone rest) := by
  simp only [runSweepEnd, stageGoal_countSweep, goal]
  split <;> rfl

theorem runSweepEnd_elapsed {s : State} {ms : Nat} (rest : List Op) (goal : s.stageGoal = some (.elapsed ms)) :
    runSweepEnd rest s = .next
      (if ms ≤ s.peer.nextNow - s.work.tStart then s.countSweep.readClock.stageDone rest
        else s.countSweep.readClock.plan (.sweepStart :: rest)) := by
  simp only [runSweepEnd, stageGoal_countSweep, goal]
  split <;> rfl

section
variable {s t : State} {c : DriverConfig} {prev : FrameSource} {out : List OutEvent} {op : Op} {ops rest : List Op}
  {w : Work} {d n ms : Nat}

/-- The goal of the stage depends on the working registers, and on nothing else a rendering changes. -/
theorem Renders.stageGoal (h : Renders s t out ops w d) : t.stageGoal = State.stageGoal { s with work := w } := by
  rw [h.frame, h.work]; rfl

theorem Renders.stageRest_eq (h : Renders s t out ops w d) (v : Work) :
    stageRest { t with work := v } rest = stageRest { s with work := v } rest := by
  rw [h.frame]; rfl

theorem Renders.stageWork_eq (h : Renders s t out ops w d) (v : Work) (rows n start : Nat) :
    stageWork { t with work := v } rows n start = stageWork { s with work := v } rows n start := by
  rw [h.frame]; rfl

theorem Renders.countSweep (h : Renders s t out (op :: rest) w d) :
    ∃ q e, q < 2 ^ 31 ∧ (w.sweep + 1 < 2 ^ 31 → q = w.sweep + 1 ∧ e = 0)
      ∧ Rendered t (t.plan rest).countSweep [] rest { w with sweep := q } e := by
  obtain ⟨q, e, bound, room, eq⟩ := countSweep_eq (t.plan rest)
  have sweep : (t.plan rest).work.sweep = w.sweep := by rw [State.plan_work, h.work]
  have work := congrArg (fun x : Work => { x with sweep := q }) h.work
  rw [sweep] at room
  rw [eq]
  exact ⟨q, e, bound, room, outLog_of_logRev_eq rfl, rfl, work, rfl⟩

theorem Renders.nextReading (hs : s.blockRuns) (h : Renders s t out ops w d) :
    t.peer.nextNow = s.peer.nowAt (out.count .clock) := by
  rw [← Nat.zero_add (out.count .clock), ← h.nowAt hs]; rfl

/-- The end of a stage in a rendering, whatever its last step was. -/
theorem Renders.stageDone {u : State} {es : List OutEvent} {w' : Work} {e : Nat} (hs : s.blockRuns)
    (h : Renders s t out (op :: rest) w d) (r : Rendered t u es ops w' e)
    (steps : runOp op rest (t.plan rest) = .next (u.stageDone rest)) (row : w'.row = n - 1) :
    ∃ v, Renders s v (out ++ es) (stageRest { s with work := w' } rest)
      (stageWork { s with work := w' } n w'.sweep w'.tStart) (d + e) := by
  rw [← h.stageRest_eq, ← h.stageWork_eq]
  exact ⟨_, h.next_draws hs steps (r.stageDone rest row)⟩

/-! ### A stage of a number of sweeps -/

theorem repeatLog_one (l : List OutEvent) : repeatLog 1 l = l := by simp [repeatLog]

/-- The sweeps of a stage of `n` sweeps from the current one on, `more` of them after it (45_timing_policy.md R308). -/
theorem Renders.countedSweeps {more : Nat} (hs : s.blockRuns) (hc : s.cfg = some c) (hp : s.prevSource = some prev)
    (h : Renders s t out (.sweepStart :: rest) w d) (goal : State.stageGoal { s with work := w } = some (.sweeps n))
    (count : w.sweep + more + 1 = n) (fits : n < 2 ^ 31) :
    ∃ u, Renders s u (out ++ repeatLog (more + 1) (sweepLog s c prev s.kind w.stage))
      (stageRest { s with work := w } rest) (stageWork { s with work := w } c.size.height n w.tStart) d := by
  induction more generalizing t out w with
  | zero =>
    obtain ⟨t₁, h₁⟩ := Renders.sweep hs hc hp h
    obtain ⟨q, e, -, room, r⟩ := h₁.countSweep
    obtain ⟨rfl, rfl⟩ := room (by change w.sweep + 1 < _; omega)
    have last : ¬ (t₁.plan rest).countSweep.work.sweep < n := by rw [r.work]; change ¬ w.sweep + 1 < n; omega
    have steps : runOp .sweepEnd rest (t₁.plan rest) = .next _ :=
      (runSweepEnd_sweeps (s := t₁.plan rest) rest (h₁.stageGoal.trans goal)).trans (congrArg _ (if_neg last))
    obtain ⟨u, h₂⟩ := Renders.stageDone (n := c.size.height) hs h₁ r steps rfl
    obtain rfl : w.sweep + 1 = n := count
    rw [List.append_nil] at h₂
    exact ⟨u, by rw [repeatLog_one]; exact h₂⟩
  | succ more ih =>
    obtain ⟨t₁, h₁⟩ := Renders.sweep hs hc hp h
    obtain ⟨q, e, -, room, r⟩ := h₁.countSweep
    obtain ⟨rfl, rfl⟩ := room (by change w.sweep + 1 < _; omega)
    have again : (t₁.plan rest).countSweep.work.sweep < n := by rw [r.work]; change w.sweep + 1 < n; omega
    have steps : runOp .sweepEnd rest (t₁.plan rest) = .next _ :=
      (runSweepEnd_sweeps (s := t₁.plan rest) rest (h₁.stageGoal.trans goal)).trans (congrArg _ (if_pos again))
    obtain ⟨u, h₂⟩ := ih (h₁.next_quiet hs steps (r.plan _)) goal (by change w.sweep + 1 + more + 1 = n; omega)
    refine ⟨u, ?_⟩
    rw [repeatLog_succ, ← List.append_assoc]
    exact h₂

/-- A stage or pass of `n` sweeps (R308). -/
theorem Renders.countedStage (hs : s.blockRuns) (hc : s.cfg = some c) (hp : s.prevSource = some prev)
    (h : Renders s t out (.stageStart :: rest) w d) (goal : State.stageGoal { s with work := w } = some (.sweeps n))
    (pos : 1 ≤ n) (fits : n < 2 ^ 31) :
    ∃ u, Renders s u (out ++ repeatLog n (sweepLog s c prev s.kind w.stage)) (stageRest { s with work := w } rest)
      (stageWork { s with work := w } c.size.height n w.tStart) d := by
  have steps : runOp .stageStart rest (t.plan rest) = .next _ :=
    runStageStart_sweeps rest (h.stageGoal.trans goal) (by omega)
  have work := congrArg (fun x : Work => { x with sweep := 0 }) h.work
  have first : Renders s _ out (.sweepStart :: rest) { w with sweep := 0 } d :=
    h.next_quiet hs steps ⟨outLog_of_logRev_eq rfl, rfl, work, rfl⟩
  obtain ⟨more, rfl⟩ : ∃ more, n = more + 1 := ⟨n - 1, by omega⟩
  exact Renders.countedSweeps (w := { w with sweep := 0 }) hs hc hp first goal (by change 0 + more + 1 = _; omega) fits

/-! ### A stage by the clock -/

theorem sweepLog_readings (s : State) (c : DriverConfig) (prev : FrameSource) (kind : UpdateKind) (stage : Nat) :
    (sweepLog s c prev kind stage).count .clock = 0 := by
  simp [sweepLog, rowLog, regWriteOut, frameOut, List.count_eq_zero]

/-- One sweep of a timed stage and the reading after it, which is the next one: another sweep, or the end of the stage
(R309). -/
theorem Renders.timedSweep (hs : s.blockRuns) (hc : s.cfg = some c) (hp : s.prevSource = some prev)
    (h : Renders s t out (.sweepStart :: rest) w d) (goal : State.stageGoal { s with work := w } = some (.elapsed ms)) :
    ∃ q e, q < 2 ^ 31 ∧ (w.sweep + 1 < 2 ^ 31 → q = w.sweep + 1 ∧ e = 0)
      ∧ (s.peer.nowAt (out.count .clock) - w.tStart < ms →
        ∃ u, Renders s u (out ++ (sweepLog s c prev s.kind w.stage ++ [.clock])) (.sweepStart :: rest)
          { w with row := c.size.height - 1, sweep := q } (d + e))
      ∧ (ms ≤ s.peer.nowAt (out.count .clock) - w.tStart →
        ∃ u, Renders s u (out ++ (sweepLog s c prev s.kind w.stage ++ [.clock])) (stageRest { s with work := w } rest)
          (stageWork { s with work := w } c.size.height q w.tStart) (d + e)) := by
  obtain ⟨t₁, h₁⟩ := Renders.sweep hs hc hp h
  obtain ⟨q, e, bound, room, r⟩ := h₁.countSweep
  have reading : (t₁.plan rest).peer.nextNow = s.peer.nowAt (out.count .clock) := by
    rw [State.plan_peer, h₁.nextReading hs, List.count_append, sweepLog_readings, Nat.add_zero]
  have tStart : (t₁.plan rest).work.tStart = w.tStart := by rw [State.plan_work, h₁.work]
  have step := runSweepEnd_elapsed (s := t₁.plan rest) rest (h₁.stageGoal.trans goal)
  rw [reading, tStart] at step
  simp only [← List.append_assoc]
  exact ⟨q, e, bound, room,
    fun early => ⟨_, h₁.next_draws hs (step.trans (congrArg _ (if_neg (by omega)))) (r.readClock.plan _)⟩,
    fun late => Renders.stageDone hs h₁ r.readClock (step.trans (congrArg _ (if_pos late))) rfl⟩

/-- The sweeps of a timed stage from the current one on, `more` of them after it: the first reading at least `ms` past the
start is the one after the last (R309). -/
theorem Renders.timedSweeps {more : Nat} (hs : s.blockRuns) (hc : s.cfg = some c) (hp : s.prevSource = some prev)
    (h : Renders s t out (.sweepStart :: rest) w d) (goal : State.stageGoal { s with work := w } = some (.elapsed ms))
    (early : ∀ j < more, s.peer.nowAt (out.count .clock + j) - w.tStart < ms)
    (late : ms ≤ s.peer.nowAt (out.count .clock + more) - w.tStart) :
    ∃ u q e, Renders s u (out ++ repeatLog (more + 1) (sweepLog s c prev s.kind w.stage ++ [.clock]))
        (stageRest { s with work := w } rest) (stageWork { s with work := w } c.size.height q w.tStart) (d + e)
      ∧ q < 2 ^ 31 ∧ (w.sweep + more + 1 < 2 ^ 31 → q = w.sweep + more + 1 ∧ e = 0) := by
  induction more generalizing t out w d with
  | zero =>
    obtain ⟨q, e, bound, room, -, last⟩ := Renders.timedSweep hs hc hp h goal
    obtain ⟨u, h₁⟩ := last late
    exact ⟨u, q, e, by rw [repeatLog_one]; exact h₁, bound, room⟩
  | succ more ih =>
    obtain ⟨q, e, -, room, again, -⟩ := Renders.timedSweep hs hc hp h goal
    obtain ⟨t₁, h₁⟩ := again (early 0 (Nat.succ_pos _))
    have readings : (out ++ (sweepLog s c prev s.kind w.stage ++ [OutEvent.clock])).count .clock
        = out.count .clock + 1 := by
      rw [List.count_append, List.count_append, sweepLog_readings]; rfl
    obtain ⟨u, q', e', h₂, bound, room'⟩ := ih h₁ goal
      (fun j hj => by rw [readings, Nat.add_assoc, Nat.add_comm 1 j]; exact early (j + 1) (by omega))
      (by rw [readings, Nat.add_assoc, Nat.add_comm 1 more]; exact late)
    refine ⟨u, q', e + e', ?_, bound, fun fits => ?_⟩
    · rw [repeatLog_succ, ← List.append_assoc, ← Nat.add_assoc]
      exact h₂
    · obtain ⟨rfl, rfl⟩ := room (by omega)
      obtain ⟨rfl, rfl⟩ := room' (by change w.sweep + 1 + more + 1 < _; omega)
      exact ⟨by change w.sweep + 1 + more + 1 = _; omega, rfl⟩

/-- A timed stage or pass of `m` sweeps (R309, R310). -/
theorem Renders.timedStage {m : Nat} (hs : s.blockRuns) (hc : s.cfg = some c) (hp : s.prevSource = some prev)
    (h : Renders s t out (.stageStart :: rest) w d) (goal : State.stageGoal { s with work := w } = some (.elapsed ms))
    (times : s.peer.timedSweeps ms (out.count .clock) m) :
    ∃ u q e, Renders s u (out ++ .clock :: repeatLog m (sweepLog s c prev s.kind w.stage ++ [.clock]))
        (stageRest { s with work := w } rest)
        (stageWork { s with work := w } c.size.height q (s.peer.nowAt (out.count .clock))) (d + e)
      ∧ q < 2 ^ 31 ∧ (m < 2 ^ 31 → q = m ∧ e = 0) := by
  obtain ⟨pos, early, late⟩ := times
  obtain ⟨more, rfl⟩ : ∃ more, m = more + 1 := ⟨m - 1, by omega⟩
  have steps : runOp .stageStart rest (t.plan rest) = .next _ :=
    runStageStart_elapsed (s := t.plan rest) rest (h.stageGoal.trans goal)
  have work := congrArg (fun x : Work => { x with sweep := 0, tStart := t.peer.nextNow }) h.work
  have first : Renders s _ (out ++ [.clock]) (.sweepStart :: rest) { w with sweep := 0, tStart := t.peer.nextNow } d :=
    h.next hs steps ⟨outLog_cons (e := .clock t.peer.nextNow) rfl, rfl, work, rfl⟩
  rw [h.nextReading hs] at first
  have readings : (out ++ [OutEvent.clock]).count .clock = out.count .clock + 1 := by rw [List.count_append]; rfl
  obtain ⟨u, q, e, h₁, bound, room⟩ := Renders.timedSweeps (more := more) hs hc hp first goal
    (fun j hj => by rw [readings, Nat.add_assoc, Nat.add_comm 1 j]; exact early (j + 1) (by omega) (by omega))
    (by rw [readings, Nat.add_assoc, Nat.add_comm 1 more]; exact late)
  refine ⟨u, q, e, ?_, bound, fun fits => ?_⟩
  · rw [List.append_cons]
    exact h₁
  · obtain ⟨rfl, rfl⟩ := room (by change 0 + more + 1 < _; omega)
    exact ⟨by change 0 + more + 1 = _; omega, rfl⟩

end

end Sys2Proof.Machine
end

section
/-! A whole full update (O19): the power-up, the four stages, the power-off, the commit and the completion. -/

namespace Sys2Proof.Machine

/-! ### A stage under any budget -/

theorem stageTime_first {s : State} {ms : Nat} (timed : s.budget = .timeMs ms) (kind : UpdateKind) :
    s.stageTime kind 0 = some ms := by
  simp only [State.stageTime, timed]
  cases kind with
  | partialPass => rfl
  | full => cases s.params.timedStageMode <;> rfl

/-- Under a time budget a stage is timed on its own, or makes the sweeps kept from stage 0 (45_timing_policy.md R310). -/
theorem stageGoal_of_timeMs {s : State} {ms : Nat} (timed : s.budget = .timeMs ms) (w : Work) :
    State.stageGoal { s with work := w }
      = some ((s.stageTime s.kind w.stage).elim (.sweeps w.firstSweeps) .elapsed) := by
  simp only [State.stageGoal, State.stageTime, timed]
  cases s.kind with
  | partialPass => rfl
  | full =>
    cases s.params.timedStageMode with
    | perStage => rfl
    | countFromFirst => cases w.stage <;> rfl

theorem stageGoal_of_stageTime {s : State} {w : Work} {ms : Nat} (timed : s.stageTime s.kind w.stage = some ms) :
    State.stageGoal { s with work := w } = some (.elapsed ms) := by
  obtain ⟨total, budget⟩ : ∃ total, s.budget = .timeMs total := by
    cases budget : s.budget with
    | unset | fixed => simp [State.stageTime, budget] at timed
    | timeMs total => exact ⟨total, rfl⟩
  rw [stageGoal_of_timeMs budget, timed]; rfl

/-- A stage that is not timed on its own makes the budget's count of sweeps, or those kept from stage 0 (R308, R310). -/
theorem stageGoal_of_count {s : State} {w : Work} {first clock m : Nat} (untimed : s.stageTime s.kind w.stage = none)
    (makes : s.makesSweeps s.kind w.stage first clock m) (kept : 0 < w.stage → first < 2 ^ 31 → w.firstSweeps = first) :
    1 ≤ m ∧ m < 2 ^ 31 ∧ State.stageGoal { s with work := w } = some (.sweeps m) := by
  unfold State.makesSweeps at makes
  rw [untimed] at makes
  obtain ⟨pos, fits, fixed | ⟨⟨ms, timed⟩, rfl⟩⟩ := makes
  · exact ⟨pos, fits, by simp only [State.stageGoal, fixed]⟩
  · have later : w.stage ≠ 0 := fun zero => by simp [zero, stageTime_first timed] at untimed
    rw [stageGoal_of_timeMs timed, untimed, Option.elim_none, kept (by omega) fits]
    exact ⟨pos, fits, rfl⟩

theorem stageLog_readings (s : State) (c : DriverConfig) (prev : FrameSource) (kind : UpdateKind) (stage m : Nat) :
    (stageLog s c prev kind stage m).count .clock = s.clocksOf kind stage m := by
  have repeated (n : Nat) (l : List OutEvent) : (repeatLog n l).count .clock = n * l.count .clock := by
    simp [repeatLog, List.count_flatten]
  unfold stageLog State.clocksOf
  split <;> simp [repeated, sweepLog_readings]

section
variable {s t : State} {c : DriverConfig} {prev : FrameSource} {out : List OutEvent} {rest : List Op} {w : Work}
  {d first m : Nat}

/-- A stage or pass under any budget; `sweep` then holds its sweeps where 31 bits can (R307 to R310). -/
theorem Renders.stage (hs : s.blockRuns) (hc : s.cfg = some c) (hp : s.prevSource = some prev)
    (h : Renders s t out (.stageStart :: rest) w d) (makes : s.makesSweeps s.kind w.stage first (out.count .clock) m)
    (kept : 0 < w.stage → first < 2 ^ 31 → w.firstSweeps = first) :
    ∃ u q start e, Renders s u (out ++ stageLog s c prev s.kind w.stage m) (stageRest { s with work := w } rest)
        (stageWork { s with work := w } c.size.height q start) e
      ∧ (m < 2 ^ 31 → q = m) := by
  unfold stageLog
  cases time : s.stageTime s.kind w.stage with
  | some ms =>
    unfold State.makesSweeps at makes
    rw [time] at makes
    obtain ⟨u, q, e, h₁, -, room⟩ := Renders.timedStage hs hc hp h (stageGoal_of_stageTime time) makes
    exact ⟨u, q, _, _, h₁, fun fits => (room fits).left⟩
  | none =>
    obtain ⟨pos, fits, goal⟩ := stageGoal_of_count time makes kept
    obtain ⟨u, h₁⟩ := Renders.countedStage hs hc hp h goal pos fits
    exact ⟨u, m, _, _, h₁, fun _ => rfl⟩

/-! ### The four stages -/

/-- One stage of a full update, `first` being the sweeps of stage 0: the next stage starts, or the rendering is over
(43_frame_renderer.md R254). -/
theorem Renders.fullStage {k : Nat} (hs : s.blockRuns) (hc : s.cfg = some c) (hp : s.prevSource = some prev)
    (full : s.kind = .full) (stage : w.stage = k) (h : Renders s t out (.stageStart :: rest) w d)
    (makes : s.makesSweeps .full k first (out.count .clock) m) (isFirst : k = 0 → m = first)
    (kept : 0 < k → first < 2 ^ 31 → w.firstSweeps = first) :
    ∃ u w' e, Renders s u (out ++ stageLog s c prev .full k m) (if k < 3 then .stageStart :: rest else rest) w' e
      ∧ (k < 3 → w'.stage = k + 1) ∧ (k < 3 → first < 2 ^ 31 → w'.firstSweeps = first) := by
  subst stage
  rw [← full] at makes ⊢
  obtain ⟨u, q, start, e, h₁, room⟩ := Renders.stage hs hc hp h makes kept
  rw [stageRest_full (s := { s with work := w }) full] at h₁
  refine ⟨u, _, e, h₁, ?_, ?_⟩
  · intro more
    simp [stageWork, full, more]
  · intro more fits
    by_cases zero : w.stage = 0
    · obtain rfl := isFirst zero
      simp [stageWork, full, zero, room fits]
    · simp [stageWork, full, zero, more, kept (by omega) fits]

/-- The four stages of a full update (R254). -/
theorem Renders.fullRendering {m0 m1 m2 m3 : Nat} (hs : s.blockRuns) (hc : s.cfg = some c)
    (hp : s.prevSource = some prev) (full : s.kind = .full) (ht : s.todo = .stageStart :: rest) (hw : s.work.stage = 0)
    (make0 : s.makesSweeps .full 0 m0 0 m0) (make1 : s.makesSweeps .full 1 m0 (s.clocksOf .full 0 m0) m1)
    (make2 : s.makesSweeps .full 2 m0 (s.clocksOf .full 0 m0 + s.clocksOf .full 1 m1) m2)
    (make3 : s.makesSweeps .full 3 m0 (s.clocksOf .full 0 m0 + s.clocksOf .full 1 m1 + s.clocksOf .full 2 m2) m3) :
    ∃ u w e, Renders s u
      (stageLog s c prev .full 0 m0 ++ stageLog s c prev .full 1 m1 ++ stageLog s c prev .full 2 m2
        ++ stageLog s c prev .full 3 m3) rest w e := by
  obtain ⟨t₁, w₁, e₁, h₁, stage₁, kept₁⟩ :=
    Renders.fullStage hs hc hp full hw (ht ▸ Renders.refl s) make0 (fun _ => rfl) nofun
  obtain ⟨t₂, w₂, e₂, h₂, stage₂, kept₂⟩ := Renders.fullStage hs hc hp full (stage₁ (by decide)) h₁
    (by simpa [stageLog_readings] using make1) nofun fun _ => kept₁ (by decide)
  obtain ⟨t₃, w₃, e₃, h₃, stage₃, kept₃⟩ := Renders.fullStage hs hc hp full (stage₂ (by decide)) h₂
    (by simpa [stageLog_readings] using make2) nofun fun _ => kept₂ (by decide)
  obtain ⟨t₄, w₄, e₄, h₄, -⟩ := Renders.fullStage hs hc hp full (stage₃ (by decide)) h₃
    (by simpa [stageLog_readings, Nat.add_assoc] using make3) nofun fun _ => kept₃ (by decide)
  exact ⟨t₄, w₄, e₄, by simpa using h₄⟩

end

/-! ### The parts of an update -/

/-- From `s` the block ran to `t`, logging `out`, and nothing changed but what an update changes before its commit. -/
structure Updates (s t : State) (out : List OutEvent) : Prop where
  reaches : ∃ n, run n s = .next t
  log : t.outLog = s.outLog ++ out
  frame : t = { s with
    fsm := t.fsm, session := t.session, work := t.work, todo := t.todo, pins := t.pins, logRev := t.logRev,
    peer := t.peer, readFault := t.readFault, freeSweeps := t.freeSweeps }

section
variable {s t u : State} {out out' : List OutEvent}

theorem Updates.trans (h : Updates s t out) (h' : Updates t u out') : Updates s u (out ++ out') where
  reaches := by
    obtain ⟨n, first⟩ := h.reaches
    obtain ⟨m, second⟩ := h'.reaches
    exact ⟨n + m, (run_add first m).trans second⟩
  log := by rw [h'.log, h.log, List.append_assoc]
  frame := by rw [h'.frame, h.frame]

theorem Phase.updates {f : Fsm} {n nb nl : Nat} (h : Phase f s t n out nb nl) : Updates s t out where
  reaches := ⟨n, h.runs⟩
  log := h.log
  frame := by rw [h.frame]

theorem Renders.updates {ops : List Op} {w : Work} {d : Nat} (h : Renders s t out ops w d) : Updates s t out where
  reaches := h.reaches
  log := h.log
  frame := by rw [h.frame]

end

section
variable {s t : State} {c : DriverConfig} {polls failed : Nat}

/-- VALIDATING and a power-up that succeeds (42_power_sequencer.md R203 to R216). -/
theorem updates_powerUp (hr : s.blockRuns) (ht : s.todo = [.validate]) (hf : s.fsm = .validating) (hc : s.cfg = some c)
    (hp : s.prevSource ≠ none) (hb : s.budget ≠ .unset) (good : s.GoodPowerUp polls failed)
    (hlen : (s.params.chanSel.get c.size).length = 8) :
    ∃ t w, Updates s t (powerUpLog s.params c polls failed)
      ∧ t.Stands s.params c .ready (.renderStart :: (powerOffOps s.params c ++ [.commit, .complete .ok])) w := by
  obtain ⟨s₁, h₁, st₁⟩ := phase_validating hr ht hf hc hp hb
  obtain ⟨n₂, s₂, h₂, st₂, -⟩ := phase_resetting (polls := polls)
    (rest := probingOps ++ (configuringOps s.params c ++ .chargeStart :: (readyOps s.params ++ .renderStart ::
      (powerOffOps s.params c ++ [.commit, .complete .ok]))))
    (by simpa [updateOps] using st₁) (fun k hk => by rw [h₁.levels]; exact good.busy k hk)
    (by rw [h₁.levels]; exact good.ready)
  obtain ⟨n₃, s₃, w₃, h₃, st₃, -⟩ := phase_probing st₂ (by rw [h₂.bytes, h₁.bytes]; exact good.chipId)
  obtain ⟨n₄, s₄, w₄, h₄, st₄, -⟩ := phase_configuring st₃ hlen
    (by rw [h₃.bytes, h₂.bytes, h₁.bytes]; exact good.panel)
  have charge : ∀ i, s₄.peer.byteAt (attemptByte i) = s.peer.byteAt (45 + attemptByte i) := fun i => by
    rw [h₄.bytes, h₃.bytes, h₂.bytes, h₁.bytes]; congr 1; omega
  obtain ⟨n₅, s₅, w₅, nb, h₅, st₅, -⟩ := phase_charging st₄ good.few
    (fun i hi => by rw [charge]; exact good.charging i hi) (by rw [charge]; exact good.charged)
  exact ⟨s₅, w₅, (((h₁.updates.trans h₂.updates).trans h₃.updates).trans h₄.updates).trans h₅.updates, st₅⟩

theorem powerUpLog_readings (p : Params) (c : DriverConfig) (polls failed : Nat) :
    (powerUpLog p c polls failed).count .clock = 0 := by
  have border (f : PinId → List OutEvent) (silent : ∀ b, OutEvent.clock ∉ f b) : OutEvent.clock ∉ borderOut c f := by
    unfold borderOut
    split
    · exact silent _
    · exact List.not_mem_nil
  have repeated (n : Nat) (l : List OutEvent) (silent : OutEvent.clock ∉ l) : OutEvent.clock ∉ repeatLog n l := by
    simp [repeatLog, silent]
  rw [List.count_eq_zero]
  simp [powerUpLog, resettingWholeLog, resettingLog, probingLog, configuringWholeLog, configuringLog, chargingLog,
    chargeAttemptLog, statusReadLog, regWriteOut, frameOut, border, repeated]

/-- The power-off, the commit and the completion end an update whose power-up and rendering went well. -/
theorem updatedWith_of_powerOff {f : Fsm} {w : Work} {powerUp rendering : List OutEvent} (hr : s.blockRuns)
    (h : Updates s t (powerUp ++ rendering))
    (hs : t.Stands s.params c f (powerOffOps s.params c ++ [.commit, .complete .ok]) w) :
    ∃ k u, run k s = .next u ∧ UpdatedWith s u c powerUp rendering := by
  obtain ⟨v, n, x, nb, enters, -, off, stands⟩ := phase_powerOff hs
  have all := (h.trans enters.updates).trans off.updates
  rw [List.append_nil] at all
  obtain ⟨k, runs⟩ := all.reaches
  obtain ⟨closed, -⟩ := lines_of_powerOff hr runs all.log
  have commits := step_commit stands.runs stands.cfg stands.todo
  have completes : step ((x.plan [.complete .ok]).commitPrev c.size) = .next _ :=
    step_complete (code := .ok) stands.runs rfl
  obtain ⟨-, -, settled⟩ := stands.runs
  have outside := all.frame
  refine ⟨k + 1 + 1, _, (run_add ((run_add runs 1).trans (run_succ_of_next commits 0)) 1).trans
    (run_succ_of_next completes 0), rfl, ⟨rfl, settled, rfl⟩, ⟨stands.fsm, closed⟩, ?_, ⟨rfl, fun i hi => ?_⟩,
    fun a ha => ?_, ?_⟩
  · exact all.log.trans (by simp only [List.append_assoc])
  · exact (commitPrev_copies _ c.size hi).trans (by rw [outside]; rfl)
  · exact (commitPrev_outside _ c.size ha).trans (by rw [outside]; rfl)
  · rw [outside]; exact ⟨rfl, rfl, rfl, rfl⟩

/-- A part of an update with no clock reading leaves the sweeps of a stage as they were to be. -/
theorem Updates.makesSweeps {out : List OutEvent} {kind : UpdateKind} {stage first clock m : Nat} (hr : s.blockRuns)
    (h : Updates s t out) (silent : out.count .clock = 0) (makes : s.makesSweeps kind stage first clock m) :
    t.makesSweeps kind stage first clock m := by
  obtain ⟨host, -, -⟩ := hr
  obtain ⟨k, runs⟩ := h.reaches
  have now (j : Nat) : t.peer.nowAt j = s.peer.nowAt j := by rw [nowAt_of_run host runs h.log, silent, Nat.add_zero]
  have time : t.stageTime kind stage = s.stageTime kind stage := by rw [h.frame]; rfl
  have budget : t.budget = s.budget := by rw [h.frame]
  unfold State.makesSweeps Peer.timedSweeps at makes ⊢
  simpa only [time, budget, now] using makes

theorem Updates.clocksOf {out : List OutEvent} (h : Updates s t out) (kind : UpdateKind) (stage m : Nat) :
    t.clocksOf kind stage m = s.clocksOf kind stage m := by
  rw [h.frame]; rfl

theorem Updates.stageLog {out : List OutEvent} (h : Updates s t out) (c : DriverConfig) (prev : FrameSource)
    (kind : UpdateKind) (stage m : Nat) : stageLog t c prev kind stage m = stageLog s c prev kind stage m := by
  rw [h.frame]; rfl

theorem phase_renderStart {p : Params} {f : Fsm} {rest : List Op} {w : Work}
    (hs : s.Stands p c f (.renderStart :: rest) w) :
    ∃ t, Phase f s t 1 [] 0 0 ∧ t.Stands p c f (.stageStart :: rest) { w with stage := 0, firstSweeps := 0 } := by
  refine phase_plan hs ?_
  rw [hs.step_eq, ← hs.fsm, ← hs.work]
  rfl

theorem budget_set_of_makesSweeps {kind : UpdateKind} {stage first clock m : Nat}
    (makes : s.makesSweeps kind stage first clock m) : s.budget ≠ .unset := by
  intro unset
  simp [State.makesSweeps, State.stageTime, unset] at makes

/-- A full update from VALIDATING on: power-up, four stages, power-off, commit and completion, one after the other. -/
theorem updatedWith_of_validating {prev : FrameSource} {m0 m1 m2 m3 : Nat} (hr : s.blockRuns) (ht : s.todo = [.validate])
    (hf : s.fsm = .validating) (full : s.kind = .full) (hc : s.cfg = some c) (hp : s.prevSource = some prev)
    (good : s.GoodPowerUp polls failed) (hlen : (s.params.chanSel.get c.size).length = 8)
    (make0 : s.makesSweeps .full 0 m0 0 m0) (make1 : s.makesSweeps .full 1 m0 (s.clocksOf .full 0 m0) m1)
    (make2 : s.makesSweeps .full 2 m0 (s.clocksOf .full 0 m0 + s.clocksOf .full 1 m1) m2)
    (make3 : s.makesSweeps .full 3 m0 (s.clocksOf .full 0 m0 + s.clocksOf .full 1 m1 + s.clocksOf .full 2 m2) m3) :
    ∃ k t, run k s = .next t ∧ UpdatedWith s t c (powerUpLog s.params c polls failed)
      (stageLog s c prev .full 0 m0 ++ stageLog s c prev .full 1 m1 ++ stageLog s c prev .full 2 m2
        ++ stageLog s c prev .full 3 m3) := by
  obtain ⟨t₁, w₁, h₁, st₁⟩ :=
    updates_powerUp hr ht hf hc (by rw [hp]; nofun) (budget_set_of_makesSweeps make0) good hlen
  obtain ⟨t₂, h₂, st₂⟩ := phase_renderStart st₁
  have toReady := h₁.trans h₂.updates
  rw [List.append_nil] at toReady
  have makes {stage clock m} (make : s.makesSweeps .full stage m0 clock m) : t₂.makesSweeps .full stage m0 clock m :=
    toReady.makesSweeps hr (powerUpLog_readings ..) make
  have prevSource : t₂.prevSource = some prev := by rw [toReady.frame]; exact hp
  have kind : t₂.kind = .full := by rw [toReady.frame]; exact full
  simp only [← toReady.clocksOf] at make1 make2 make3
  obtain ⟨t₃, w₃, e, h₃⟩ := Renders.fullRendering st₂.runs st₂.cfg prevSource kind st₂.todo (by rw [st₂.work])
    (makes make0) (makes make1) (makes make2) (makes make3)
  simp only [toReady.stageLog] at h₃
  have toEnd := toReady.trans h₃.updates
  exact updatedWith_of_powerOff hr toEnd
    ⟨h₃.blockRuns st₂.runs, h₃.params.trans st₂.params, h₃.cfg.trans st₂.cfg, rfl, h₃.todo, rfl⟩

/-! ### The start of an update -/

theorem State.GoodPowerUp.startUpdate (good : s.GoodPowerUp polls failed) (kind : UpdateKind) (ovr : Bool) :
    (s.startUpdate kind ovr).GoodPowerUp polls failed :=
  ⟨good.busy, good.ready, good.chipId, good.panel, good.few, good.charging, good.charged⟩

/-- The start of an update changes nothing that its outcome is measured against. -/
theorem UpdatedWith.of_startUpdate {kind : UpdateKind} {ovr : Bool} {powerUp rendering : List OutEvent}
    (h : UpdatedWith (s.startUpdate kind ovr) t c powerUp rendering) : UpdatedWith s t c powerUp rendering :=
  ⟨h.result, h.idle, h.off, h.log, h.committed, h.otherBytes, h.kept⟩

end

/-- Settles O19: exec starts the update, and the block runs it from VALIDATING on. -/
theorem fullUpdateCompletes : Obligations.FullUpdateCompletes := by
  intro s ovr c prev polls failed m0 m1 m2 m3 hr hc hp good hlen o1 o2 o3 make0 make1 make2 make3
  obtain ⟨k, t, runs, done⟩ := updatedWith_of_validating (s := s.startUpdate .full ovr) hr rfl rfl rfl hc hp
    (good.startUpdate .full ovr) hlen make0 make1 make2 make3
  exact ⟨_, k, t, rfl, runs, done.of_startUpdate⟩

end Sys2Proof.Machine
end

section
/-! A whole partial update (O20): the power-up, one pass of sweeps, the power-off, the commit and the completion. -/

namespace Sys2Proof.Machine

/-! ### The pass -/

theorem stageRest_partialPass {s : State} (pass : s.kind = .partialPass) (rest : List Op) :
    stageRest s rest = rest := by
  simp only [stageRest, pass]

section
variable {s t u : State} {c : DriverConfig} {prev : FrameSource} {polls failed m : Nat}

/-- The one pass of a partial update is a stage after which none follows (44_partial_updater.md R281, R282). -/
theorem Renders.partialRendering {rest : List Op} (hs : s.blockRuns) (hc : s.cfg = some c)
    (hp : s.prevSource = some prev) (pass : s.kind = .partialPass) (ht : s.todo = .stageStart :: rest)
    (hw : s.work.stage = 0) (makes : s.makesSweeps .partialPass 0 m 0 m) :
    ∃ u w e, Renders s u (stageLog s c prev .partialPass 0 m) rest w e := by
  have makesHere : s.makesSweeps s.kind s.work.stage m 0 m := by rw [pass, hw]; exact makes
  obtain ⟨u, q, start, e, h, -⟩ :=
    Renders.stage hs hc hp (ht ▸ Renders.refl s) makesHere fun later => absurd hw (Nat.ne_of_gt later)
  rw [stageRest_partialPass pass, List.nil_append, pass, hw] at h
  exact ⟨u, _, e, h⟩

/-! ### Up to the rendering and from it on -/

/-- From VALIDATING to the start of the rendering, in either kind of update. -/
theorem updates_toRendering (hr : s.blockRuns) (ht : s.todo = [.validate]) (hf : s.fsm = .validating)
    (hc : s.cfg = some c) (hp : s.prevSource ≠ none) (hb : s.budget ≠ .unset) (good : s.GoodPowerUp polls failed)
    (hlen : (s.params.chanSel.get c.size).length = 8) :
    ∃ t w, Updates s t (powerUpLog s.params c polls failed) ∧ w.stage = 0
      ∧ t.Stands s.params c .ready (.stageStart :: (powerOffOps s.params c ++ [.commit, .complete .ok])) w := by
  obtain ⟨t₁, w, h₁, st₁⟩ := updates_powerUp hr ht hf hc hp hb good hlen
  obtain ⟨t₂, h₂, st₂⟩ := phase_renderStart st₁
  have both := h₁.trans h₂.updates
  rw [List.append_nil] at both
  exact ⟨t₂, _, both, rfl, st₂⟩

/-- A rendering that leaves the power-off, the commit and the completion to do ends its update with OK. -/
theorem updatedWith_of_renders {powerUp rendering : List OutEvent} {ops : List Op} {f : Fsm} {w w' : Work} {d : Nat}
    (hr : s.blockRuns) (h : Updates s t powerUp) (st : t.Stands s.params c f ops w)
    (rendered : Renders t u rendering (powerOffOps s.params c ++ [.commit, .complete .ok]) w' d) :
    ∃ k v, run k s = .next v ∧ UpdatedWith s v c powerUp rendering :=
  updatedWith_of_powerOff hr (h.trans rendered.updates)
    ⟨rendered.blockRuns st.runs, rendered.params.trans st.params, rendered.cfg.trans st.cfg, rfl, rendered.todo, rfl⟩

/-- A partial update from VALIDATING on: power-up, the pass, power-off, commit and completion, one after the other. -/
theorem partial_updatedWith_of_validating (hr : s.blockRuns) (ht : s.todo = [.validate]) (hf : s.fsm = .validating)
    (pass : s.kind = .partialPass) (hc : s.cfg = some c) (hp : s.prevSource = some prev)
    (good : s.GoodPowerUp polls failed) (hlen : (s.params.chanSel.get c.size).length = 8)
    (makes : s.makesSweeps .partialPass 0 m 0 m) :
    ∃ k t, run k s = .next t
      ∧ UpdatedWith s t c (powerUpLog s.params c polls failed) (stageLog s c prev .partialPass 0 m) := by
  obtain ⟨t, w, h, stage, st⟩ :=
    updates_toRendering hr ht hf hc (by rw [hp]; nofun) (budget_set_of_makesSweeps makes) good hlen
  have prevSource : t.prevSource = some prev := by rw [h.frame]; exact hp
  have kind : t.kind = .partialPass := by rw [h.frame]; exact pass
  have makes' := h.makesSweeps hr (powerUpLog_readings ..) makes
  obtain ⟨u, w', e, rendered⟩ :=
    Renders.partialRendering st.runs st.cfg prevSource kind st.todo (by rw [st.work, stage]) makes'
  rw [h.stageLog] at rendered
  exact updatedWith_of_renders hr h st rendered

end

/-- Settles O20: exec starts the update, and the block runs it from VALIDATING on. -/
theorem partialUpdateCompletes : Obligations.PartialUpdateCompletes := by
  intro s ovr c prev polls failed m hr hc hp good hlen makes
  obtain ⟨k, t, runs, done⟩ :=
    partial_updatedWith_of_validating (s := s.startUpdate .partialPass ovr) hr rfl rfl rfl hc hp
      (good.startUpdate .partialPass ovr) hlen makes
  exact ⟨_, k, t, rfl, runs, done.of_startUpdate⟩

end Sys2Proof.Machine
end

section
/-! Proofs of the family 45_timing_policy.md: the timing commands (O9 to O11), the temperature table (O12), the
repetition of a stage under each budget (O38 to O40), and what changes the budget (O56). -/

namespace Sys2Proof.Machine

/-! ### A command of two steps -/

/-- An issued command whose instruction leaves only its completion to do ends at the next step (46_host_commands.md
R330, R336). -/
theorem run_issued {s t : State} {w : Word32} {i : Instr} {code : ResultCode} (hs : s.issued w)
    (hd : decodeWord w = .ok i) (he : exec i { s with pending := false } = .next (t.plan [.complete code]))
    (runs : t.blockRuns) : run 2 s = .next (t.ended code) := by
  obtain ⟨hhost, hbusy, hpending, rfl⟩ := hs
  obtain ⟨-, -, decoded⟩ := id runs
  have first : step s = .next (t.plan [.complete code]) := by
    rw [step_of_no_host hhost, blockStep, if_pos hbusy, if_pos hpending, runCommand, hd]
    exact he
  have last : step (t.plan [.complete code]) = .next (t.ended code) :=
    (step_complete (s := t.plan [.complete code]) runs rfl).trans (congrArg _ (complete_eq_ended decoded))
  exact (run_succ_of_next first 1).trans (run_succ_of_next last 0)

/-- An issued command that stores a budget and completes. -/
theorem run_storesBudget {s : State} {w : Word32} {i : Instr} {b : Budget} {code : ResultCode} (hs : s.issued w)
    (hd : decodeWord w = .ok i)
    (he : exec i { s with pending := false }
      = .next { s with pending := false, budget := b, todo := [.complete code] }) :
    run 2 s = .next (State.ended { s with budget := b } code) := by
  obtain ⟨hhost, hbusy, -, -⟩ := id hs
  exact run_issued (t := { s with pending := false, budget := b }) hs hd he ⟨hhost, hbusy, rfl⟩

/-! ### The timing commands -/

theorem execSetTimingFixed_eq (s : State) :
    execSetTimingFixed s = .next
      (if s.captured.arg.toInt ≤ 0 then s.plan [.complete .invalidArgument]
        else { s with budget := .fixed s.captured.arg.toInt.toNat, todo := [.complete .ok] }) := by
  unfold execSetTimingFixed State.argValue
  split <;> rfl

theorem execSetTimingBudget_eq (s : State) :
    execSetTimingBudget s = .next
      (if s.captured.arg.toInt ≤ 0 then s.plan [.complete .invalidArgument]
        else { s with budget := .timeMs s.captured.arg.toInt.toNat, todo := [.complete .ok] }) := by
  unfold execSetTimingBudget State.argValue
  split <;> rfl

/-- A command that stores a positive ARG as a budget and rejects any other: its instruction alone, and the whole command
(45_timing_policy.md R301, R302). -/
theorem argBudget_result {w : Word32} {i : Instr} {budgetOf : Nat → Budget} (hd : decodeWord w = .ok i)
    (he : ∀ s, exec i s = .next
      (if s.captured.arg.toInt ≤ 0 then s.plan [.complete .invalidArgument]
        else { s with budget := budgetOf s.captured.arg.toInt.toNat, todo := [.complete .ok] })) (s : State) :
    (0 < s.captured.arg.toInt →
      exec i s = .next { s with budget := budgetOf s.captured.arg.toInt.toNat, todo := [.complete .ok] }
      ∧ (s.issued w →
        run 2 s = .next (State.ended { s with budget := budgetOf s.captured.arg.toInt.toNat } .ok)))
    ∧ (s.captured.arg.toInt ≤ 0 →
      exec i s = .next { s with todo := [.complete .invalidArgument] }
      ∧ (s.issued w → run 2 s = .next (s.ended .invalidArgument))) := by
  refine ⟨fun positive => ?_, fun rejected => ?_⟩
  · have stores (u : State) (same : u.captured = s.captured) :=
      (he u).trans (congrArg _ (if_neg (by rw [same]; omega)))
    exact ⟨stores s rfl, fun hs => run_storesBudget hs hd (stores { s with pending := false } rfl)⟩
  · have rejects (u : State) (same : u.captured = s.captured) :=
      (he u).trans (congrArg _ (if_pos (by rw [same]; exact rejected)))
    exact ⟨rejects s rfl, fun hs => run_storesBudget hs hd (rejects { s with pending := false } rfl)⟩

/-- Settles O9. -/
theorem setTimingFixedResult : Obligations.SetTimingFixedResult :=
  argBudget_result (i := .setTimingFixed) rfl execSetTimingFixed_eq

/-- Settles O10. -/
theorem setTimingBudgetResult : Obligations.SetTimingBudgetResult :=
  argBudget_result (i := .setTimingBudget) rfl execSetTimingBudget_eq

/-- Settles O11: the smallest multiplier, of the warmest band, gives 441 ms. -/
theorem setTimingTempResult : Obligations.SetTimingTempResult := by
  intro s
  obtain ⟨least, -⟩ := multiplier10_range s.captured.arg.toInt
  refine ⟨rfl, fun hs => run_storesBudget hs (i := .setTimingTemp) rfl rfl, ?_⟩
  unfold tempBudget
  omega

/-! ### The temperature table -/

theorem tempBudget_of_multiplier10 {c : Int} {m : Nat} (h : multiplier10 c = m) :
    multiplier10 c = m ∧ tempBudget c = 630 * m / 10 :=
  ⟨h, by rw [tempBudget, h]⟩

/-- Settles O12: in each band the tests of the bands before it fail and its own succeeds (45_timing_policy.md R304). -/
theorem temperatureTable : Obligations.TemperatureTable := by
  intro c
  refine ⟨rfl, fun hi => ?_, fun ⟨lo, hi⟩ => ?_, fun ⟨lo, hi⟩ => ?_, fun ⟨lo, hi⟩ => ?_, fun ⟨lo, hi⟩ => ?_,
    fun ⟨lo, hi⟩ => ?_, fun ⟨lo, hi⟩ => ?_, fun lo => ?_⟩
  all_goals
    apply tempBudget_of_multiplier10
    unfold multiplier10
    repeat rw [if_neg (by omega)]
  all_goals exact if_pos hi

/-! ### The repetition of a stage -/

/-- Settles O38: the goal of a stage under a fixed budget is its count. -/
theorem fixedStageRuns : Obligations.FixedStageRuns := by
  intro s c prev n rest hs hc hp ht fixed pos fits
  have goal : s.stageGoal = some (.sweeps n) := by rw [State.stageGoal, fixed]
  obtain ⟨t, h⟩ := Renders.countedStage hs hc hp (ht ▸ Renders.refl s) goal pos fits
  obtain ⟨k, runs⟩ := h.reaches
  exact ⟨k, t, runs, h.toRendered⟩

/-- The partial pass, each stage under PER_STAGE and stage 0 are timed on their own (45_timing_policy.md R309, R310). -/
theorem stageTime_of_timedAlone {s : State} {ms stage : Nat} {kind : UpdateKind} (timed : s.budget = .timeMs ms)
    (alone : kind = .partialPass ∨ s.params.timedStageMode = .perStage ∨ stage = 0) :
    s.stageTime kind stage = some ms := by
  obtain rfl | perStage | rfl := alone
  · simp only [State.stageTime, timed]
  · simp only [State.stageTime, timed, perStage]
    cases kind <;> rfl
  · exact stageTime_first timed kind

/-- Under COUNT_FROM_FIRST a stage after the first makes the sweeps kept from stage 0 (R310). -/
theorem stageGoal_countFromFirst {s : State} {ms : Nat} (timed : s.budget = .timeMs ms) (full : s.kind = .full)
    (mode : s.params.timedStageMode = .countFromFirst) (later : s.work.stage ≠ 0) :
    s.stageGoal = some (.sweeps s.work.firstSweeps) := by
  simp only [State.stageGoal, timed, full, mode, if_neg later]

/-- Settles O39. -/
theorem timedStageRuns : Obligations.TimedStageRuns := by
  intro s c prev ms m rest hs hc hp ht timed alone times
  have goal := stageGoal_of_stageTime (s := s) (w := s.work) (stageTime_of_timedAlone timed alone)
  obtain ⟨t, q, d, h, bound, room⟩ := Renders.timedStage (out := []) hs hc hp (ht ▸ Renders.refl s) goal times
  obtain ⟨k, runs⟩ := h.reaches
  rw [Nat.zero_add] at h
  exact ⟨k, t, q, d, runs, h.toRendered, bound, room⟩

/-- A stage of no sweeps is over at its first step. -/
theorem runStageStart_noSweeps {s : State} (rest : List Op) (goal : s.stageGoal = some (.sweeps 0)) :
    runStageStart rest s = .next (State.stageDone rest { s with work := { s.work with sweep := 0 } }) := by
  simp only [runStageStart, goal, if_pos]

/-- The end of a later stage of a full update leaves the count kept from stage 0 as it is (43_frame_renderer.md
R254). -/
theorem stageDone_later {s : State} (rest : List Op) (full : s.kind = .full) (later : s.work.stage ≠ 0) :
    s.stageDone rest =
      { s with
        todo := stageRest s rest
        work := { s.work with stage := if s.work.stage < 3 then s.work.stage + 1 else s.work.stage } } := by
  rw [stageRest_full full]
  by_cases more : s.work.stage < 3
  · simp only [State.stageDone, full, if_pos more, if_neg later]
  · have done : s.stageDone rest = s.plan rest := by simp only [State.stageDone, full, if_neg more]
    simp only [done, if_neg more]
    rfl

/-- Settles O40: a kept count that is positive is a stage of that many sweeps, and a count of 0 is over at once. -/
theorem countFromFirstStageRuns : Obligations.CountFromFirstStageRuns := by
  intro s c prev ms n rest hs hc hp ht timed full mode stage kept
  have later : s.work.stage ≠ 0 := by omega
  have goal := stageGoal_countFromFirst timed full mode later
  rw [kept] at goal
  refine ⟨fun pos fits => ?_, ?_⟩
  · obtain ⟨t, h⟩ := Renders.countedStage hs hc hp (ht ▸ Renders.refl s) goal pos fits
    obtain ⟨k, runs⟩ := h.reaches
    refine ⟨k, t, runs, ?_⟩
    rw [← full]
    exact h.toRendered
  · rintro rfl
    have steps : step s = .next _ := (step_op hs ht).trans (runStageStart_noSweeps (s := s.plan rest) rest goal)
    have ends := stageDone_later (s := { s.plan rest with work := { s.work with sweep := 0 } }) rest full later
    exact ⟨_, steps.trans (congrArg _ ends), rfl, rfl, rfl, rfl⟩

/-! ### What changes the budget -/

/-- Only the timing commands' instructions change the budget (45_timing_policy.md R300). -/
theorem exec_budget_cases {i : Instr} {s t : State} (h : exec i s = .next t) :
    t.budget = s.budget ∨ i = .setTimingFixed ∨ i = .setTimingBudget ∨ i = .setTimingTemp := by
  cases i with
  | setTimingFixed => exact .inr (.inl rfl)
  | setTimingBudget => exact .inr (.inr (.inl rfl))
  | setTimingTemp => exact .inr (.inr (.inr rfl))
  | configure =>
    simp only [exec, execConfigure] at h
    split at h
    · cases h; exact .inl rfl
    · split at h <;> (cases h; exact .inl rfl)
  | fullUpdate | partialUpdate => cases h; exact .inl rfl
  | cogIndex | cogData | cogRead | cogId | cogBlock | cogRowSmall | cogRowMedium | cogRowLarge =>
    obtain ⟨c, r, -, rfl⟩ := exec_frame_next rfl h
    rw [sendFrame_frame]
    exact .inl rfl

/-- The words of the three timing commands (30_encoding.md R91). -/
def IsTimingWord (w : Word32) : Prop := w = 0x02000000 ∨ w = 0x03000000 ∨ w = 0x04000000

/-- A word that decodes to a timing command is that command's own. -/
theorem isTimingWord_of_decodeWord {w : Word32} {i : Instr} (hd : decodeWord w = .ok i)
    (hi : i = .setTimingFixed ∨ i = .setTimingBudget ∨ i = .setTimingTemp) : IsTimingWord w := by
  have encoded := encode_of_decodeWord Headers.reference hd
  obtain rfl | rfl | rfl := hi <;> cases encoded
  · exact .inl rfl
  · exact .inr (.inl rfl)
  · exact .inr (.inr rfl)

/-- Where the place in the sequence is sound, what the sequencer sends is a COG frame. -/
theorem isFrame_of_controlOk {s : State} {i : Instr} {rest : List Op} (hc : s.controlOk) (hb : s.busy = true)
    (hp : s.pending = false) (ht : s.todo = .send i :: rest) : i.isFrame = true := by
  obtain ⟨idle, -⟩ | ⟨-, issued, -⟩ | ⟨-, -, validating, -⟩ | ⟨-, -, ⟨code, completing⟩, -⟩ |
    ⟨-, -, -, -, -, frame, sound⟩ := hc
  · rw [idle] at hb; cases hb
  · rw [issued] at hp; cases hp
  · rw [validating] at ht; cases ht
  · rw [completing] at ht; cases ht
  · rw [ht] at sound
    simp only [progOk, Bool.and_eq_true] at sound
    obtain ⟨⟨-, isFrame⟩, -⟩ := sound
    exact isFrame

/-- A step of the block changes the budget only where it runs an issued timing command. -/
theorem blockStep_budget {s t : State} (hc : s.controlOk) (h : blockStep s = .next t) :
    t.budget = s.budget ∨ (s.busy = true ∧ s.pending = true ∧ IsTimingWord s.command) := by
  obtain ⟨-, e⟩ | ⟨hb, hp, e⟩ | ⟨-, -, -, e⟩ | ⟨op, rest, hb, hp, ht, e⟩ := blockStep_cases s <;> rw [e] at h
  · cases h; exact .inl rfl
  · obtain ⟨i, hd, e⟩ | ⟨r, -, e⟩ := runCommand_cases s <;> rw [e] at h
    · exact (exec_budget_cases h).imp_right fun timing => ⟨hb, hp, isTimingWord_of_decodeWord hd timing⟩
    · cases h; exact .inl rfl
  · cases h
  · have sends : ∀ i, op = .send i → i.isFrame = true := fun i hop => isFrame_of_controlOk hc hb hp (hop ▸ ht)
    exact .inl (runOp_keeps sends h).budget

theorem hostAccess_budget (agent : Agent) (x : Access) (s : State) : (hostAccess agent x s).budget = s.budget := by
  obtain ⟨r, ⟨rf, -, e⟩ | ⟨o, v, e⟩ | ⟨a, v, -, e⟩⟩ := hostAccess_cases agent x s <;> rw [e]
  · rfl
  · obtain ⟨hf, -, ⟨-, e⟩ | ⟨g, e⟩⟩ := writeReg_cases s agent o v <;> rw [e] <;> rfl
  · rfl

/-- Settles O56: of the three kinds of step a reset is excluded, a host access keeps the budget, and a step of the block
changes it only by a timing command. -/
theorem budgetOnlyByTiming : Obligations.BudgetOnlyByTiming := by
  intro s t hi h noReset changed
  obtain ⟨rest, hblock⟩ | ⟨agent, x, rest, rfl⟩ | ⟨calls, rest, hh, -⟩ := step_cases h
  · exact (blockStep_budget (s := { s with host := rest }) hi.control hblock).resolve_left changed
  · exact absurd (hostAccess_budget agent x { s with host := rest }) changed
  · exact absurd ⟨calls, rest, hh⟩ noReset

end Sys2Proof.Machine
end

section
/-! Proofs of the family 46_host_commands.md: which configuration is staged (O14), what completes a command (O57), the
instruction a step runs (O6, O7), the issue of a command (O8), CONFIGURE (O13) and the previous frame (O18). -/

namespace Sys2Proof.Machine

/-! ### The staged configuration -/

theorem pinOk_iff {p : Params} {f : PinId} : pinOk p f = true ↔ f ≠ 0xFF ∧ f < p.pinCount := by
  simp [pinOk]

theorem ofCode_eq_some_iff {b : BitVec 2} {size : PanelSize} :
    PanelSize.ofCode b = some size ↔ b.toNat = size.code.toNat := by
  have codes : ∀ b : BitVec 2, ∀ size ∈ [PanelSize.small, .medium, .large],
      PanelSize.ofCode b = some size ↔ b.toNat = size.code.toNat := by decide
  exact codes b size (by cases size <;> simp)

/-- LARGE takes its border pin from the border field, which must name a pin; the other sizes have none
(46_host_commands.md R331). -/
theorem borderOf_eq_some_iff {p : Params} {size : PanelSize} {f : PinId} {border : Option PinId} :
    borderOf p size f = some border ↔
      (size = .large → border = some f ∧ pinOk p f = true) ∧ (size ≠ .large → border = none) := by
  cases size with
  | large => cases ok : pinOk p f <;> simp [borderOf, ok, @eq_comm _ border]
  | small | medium => simp [borderOf, @eq_comm _ border]

/-- The staging gives a configuration where each of the checks of R331 passes, and that of its fields. -/
theorem config_eq_some_iff {p : Params} {g : Staging} {c : DriverConfig} :
    g.config p = some c ↔
      (c.cs = g.pinCs ∧ c.reset = g.pinReset ∧ c.busy = g.pinBusy ∧ c.panelOn = g.pinPanelOn
        ∧ c.discharge = g.pinDischarge)
      ∧ PanelSize.ofCode g.sizeCode = some c.size
      ∧ (pinOk p c.cs = true ∧ pinOk p c.reset = true ∧ pinOk p c.busy = true ∧ pinOk p c.panelOn = true
        ∧ pinOk p c.discharge = true)
      ∧ borderOf p c.size g.pinBorder = some c.border := by
  constructor
  · intro h
    unfold Staging.config at h
    split at h
    · cases h
    · next size hsize =>
      split at h
      · next hpins =>
        split at h
        · cases h
        · next border hborder =>
          cases h
          exact ⟨⟨rfl, rfl, rfl, rfl, rfl⟩, hsize, by simpa [and_assoc] using hpins, hborder⟩
      · cases h
  · obtain ⟨size, cs, reset, busy, panelOn, discharge, border⟩ := c
    rintro ⟨⟨rfl, rfl, rfl, rfl, rfl⟩, hsize, ⟨hcs, hreset, hbusy, hpanelOn, hdischarge⟩, hborder⟩
    simp only [Staging.config, hsize, hcs, hreset, hbusy, hpanelOn, hdischarge, hborder]
    rfl

/-- The fields of CFG0 and CFG1, by their bits (10_state.md R30). -/
theorem staging_fields (g : Staging) :
    g.pinCs = g.cfg0.toNat % 256 ∧ g.pinReset = g.cfg0.toNat / 256 % 256 ∧ g.pinBusy = g.cfg0.toNat / 65536 % 256
      ∧ g.pinPanelOn = g.cfg0.toNat / 16777216 ∧ g.pinDischarge = g.cfg1.toNat % 256
      ∧ g.pinBorder = g.cfg1.toNat / 256 % 256 ∧ g.sizeCode.toNat = g.cfg1.toNat / 65536 % 4 := by
  have field (w : Word32) (start len : Nat) : (w.extractLsb' start len).toNat = w.toNat / 2 ^ start % 2 ^ len := by
    rw [BitVec.extractLsb'_toNat, Nat.shiftRight_eq_div_pow]
  have top : g.cfg0.toNat / 16777216 < 256 := by have := g.cfg0.isLt; omega
  have low (n : Nat) : n / 2 ^ 0 % 2 ^ 8 = n % 256 := congrArg (· % 256) (Nat.div_one n)
  exact ⟨(field ..).trans (low _), field .., field .., (field ..).trans (Nat.mod_eq_of_lt top),
    (field ..).trans (low _), field .., field ..⟩

/-- Settles O14: `config_eq_some_iff` with each field by its bits and each check written out; the size's code is a
number for each size. -/
theorem stagedConfigurationAccepted : Obligations.StagedConfigurationAccepted := by
  intro p g c
  obtain ⟨hcs, hreset, hbusy, hpanelOn, hdischarge, hborder, hsize⟩ := staging_fields g
  simp only [config_eq_some_iff, ofCode_eq_some_iff, borderOf_eq_some_iff, pinOk_iff, hcs, hreset, hbusy, hpanelOn,
    hdischarge, hborder, hsize, and_assoc]
  cases c.size <;> rfl

/-! ### What completes a command -/

/-- The result is the same, and a command that runs goes on running. -/
def KeepsResult (s t : State) : Prop := t.lastResult = s.lastResult ∧ (s.busy = true → t.busy = true)

theorem keepsResult_of_eq {s t : State} (hr : t.lastResult = s.lastResult) (hb : t.busy = s.busy) : KeepsResult s t :=
  ⟨hr, fun busy => hb.trans busy⟩

/-- No instruction completes a command: it leaves that to the sequencer (46_host_commands.md R336). -/
theorem exec_keepsResult {i : Instr} {s t : State} (h : exec i s = .next t) : KeepsResult s t := by
  cases hi : i.isFrame with
  | true =>
    obtain ⟨c, r, -, rfl⟩ := exec_frame_next hi h
    rw [sendFrame_frame]
    exact keepsResult_of_eq rfl rfl
  | false =>
    obtain ⟨code, rfl⟩ | ⟨c, -, -, rfl⟩ | ⟨b, -, rfl⟩ | ⟨kind, ovr, rfl⟩ := exec_command_cases hi h <;>
      exact keepsResult_of_eq rfl rfl

theorem runOp_keepsResult {op : Op} {rest : List Op} {s t : State} (hop : ∀ code, op ≠ .complete code)
    (h : runOp op rest s = .next t) : KeepsResult s t := by
  by_cases hsend : ∃ i, op = .send i
  · obtain ⟨i, rfl⟩ := hsend
    exact exec_keepsResult h
  · obtain ⟨hb, hr⟩ := (runOp_keeps (fun i e => absurd ⟨i, e⟩ hsend) h).result hop
    exact keepsResult_of_eq hr hb

/-- A step of the block keeps the result and BUSY, or is the completion that comes next. -/
theorem blockStep_result {s t : State} (h : blockStep s = .next t) :
    KeepsResult s t ∨ ∃ code rest, s.todo = .complete code :: rest ∧ t = s.complete code := by
  obtain ⟨-, e⟩ | ⟨-, -, e⟩ | ⟨-, -, -, e⟩ | ⟨op, rest, -, -, ht, e⟩ := blockStep_cases s <;> rw [e] at h
  · cases h; exact .inl (keepsResult_of_eq rfl rfl)
  · obtain ⟨i, -, e⟩ | ⟨r, -, e⟩ := runCommand_cases s <;> rw [e] at h
    · exact .inl (exec_keepsResult (s := { s with pending := false }) h)
    · cases h; exact .inl (keepsResult_of_eq rfl rfl)
  · cases h
  · by_cases hop : ∃ code, op = .complete code
    · obtain ⟨code, rfl⟩ := hop
      cases h
      exact .inr ⟨code, rest, ht, rfl⟩
    · exact .inl (runOp_keepsResult (s := s.plan rest) (fun code e => hop ⟨code, e⟩) h)

/-- The host can issue a command but not end one (46_host_commands.md R330). -/
theorem hostAccess_keepsResult (agent : Agent) (x : Access) (s : State) : KeepsResult s (hostAccess agent x s) := by
  obtain ⟨r, ⟨rf, -, e⟩ | ⟨o, v, e⟩ | ⟨a, v, -, e⟩⟩ := hostAccess_cases agent x s <;> rw [e]
  · exact keepsResult_of_eq rfl rfl
  · obtain ⟨hf, -, ⟨-, e⟩ | ⟨g, e⟩⟩ := writeReg_cases s agent o v <;> rw [e]
    · exact ⟨rfl, fun _ => rfl⟩
    · exact keepsResult_of_eq rfl rfl
  · exact keepsResult_of_eq rfl rfl

/-- Settles O57: a host access and every step of the block but a completion keep the result and BUSY. -/
theorem resultOnlyByComplete : Obligations.ResultOnlyByComplete := by
  intro s t h noReset changed
  have notKept : ¬ KeepsResult s t := by
    rintro ⟨sameResult, staysBusy⟩
    obtain result | ⟨busy, idle⟩ := changed
    · exact result sameResult
    · exact absurd (staysBusy busy) (by rw [idle]; decide)
  obtain ⟨rest, hblock⟩ | ⟨agent, x, rest, rfl⟩ | ⟨calls, rest, hh, -⟩ := step_cases h
  · obtain ⟨code, ops, ht, rfl⟩ := (blockStep_result hblock).resolve_left notKept
    exact ⟨code, ops, ht, rfl, rfl, rfl, rfl, rfl, rfl, rfl⟩
  · exact absurd (hostAccess_keepsResult agent x { s with host := rest }) notKept
  · exact absurd ⟨calls, rest, hh⟩ noReset

/-! ### The instruction a step runs -/

theorem step_of_yield {s : State} {rest : List HostAction} (h : s.host = .yield :: rest) :
    step s = blockStep { s with host := rest } := by
  simp [step, advance, h]

/-- An issued word that decodes is run by the block's next step (46_host_commands.md R330). -/
theorem blockStep_issued {s : State} {i : Instr} (hb : s.busy = true) (hp : s.pending = true)
    (hd : decodeWord s.command = .ok i) : blockStep s = exec i { s with pending := false } := by
  rw [blockStep, if_pos hb, if_pos hp, runCommand, hd]

/-- A COG frame that the sequencer has next is sent by the block's next step (10_state.md R24). -/
theorem blockStep_send {s : State} {i : Instr} {ops : List Op} (hb : s.busy = true) (hp : s.pending = false)
    (ht : s.todo = .send i :: ops) : blockStep s = exec i { s with todo := ops } := by
  rw [blockStep, if_pos hb, if_neg (by rw [hp]; nofun), ht]
  rfl

/-- Settles O6: with no host action, or a yield, the step is the block's. -/
theorem stepRunsTheInstruction : Obligations.StepRunsTheInstruction := fun s _ rest _ hb =>
  ⟨fun hp hd =>
    ⟨fun idle => (step_of_no_host idle).trans (blockStep_issued hb hp hd),
      fun yields => (step_of_yield yields).trans (blockStep_issued (s := { s with host := rest }) hb hp hd)⟩,
   fun hp ht =>
    ⟨fun idle => (step_of_no_host idle).trans (blockStep_send hb hp ht),
      fun yields => (step_of_yield yields).trans (blockStep_send (s := { s with host := rest }) hb hp ht)⟩⟩

theorem withFetchWord_of_word {s : State} {nbits n : Nat} {w : Word32} (h : tableCode nbits n = .word w) :
    s.withFetchWord nbits n = s.placeWord w := by
  rw [State.withFetchWord, State.place, h]

theorem withFetchWord_of_frame {s : State} {nbits n : Nat} {bytes : List Byte} {i : Instr}
    (h : tableCode nbits n = .frame bytes) (hd : decodeFrame Headers.reference bytes = .ok i) :
    s.withFetchWord nbits n = s.placeFrame i := by
  simp only [State.withFetchWord, State.place, h, hd]

/-- Settles O7: the placed state lets the block step first, with the word issued or the frame next. -/
theorem withFetchWordRuns : Obligations.WithFetchWordRuns := by
  refine ⟨fun s w i hd => ?_, fun s nbits n bytes i hn hd => ?_⟩
  · have placed : tableCode 32 w.toNat = .word w := by
      rw [tableCode, if_pos rfl, BitVec.ofNat_toNat, BitVec.setWidth_eq]
    rw [withFetchWord_of_word placed]
    exact (step_of_yield rfl).trans (blockStep_issued (s := s.issue w) rfl rfl hd)
  · rw [withFetchWord_of_frame hn hd]
    exact (step_of_yield rfl).trans (blockStep_send (s := { s.placeFrame i with host := s.host }) rfl rfl rfl)

/-! ### The issue of a command -/

/-- A write to CMD is one step, which does what `writeCmd` says and is answered. -/
theorem step_write32_cmd {s : State} {agent : Agent} {v : Word32} {rest : List HostAction}
    (h : s.host = .access agent (.write32 s.params.blockBase v) :: rest) :
    step s = .next ((State.writeCmd { s with host := rest } agent v).respond .accepted) :=
  (step_access h).trans <| congrArg _ <|
    hostAccess_write32_reg agent { s with host := rest } (o := regCmd) v (by decide) (by decide)

/-- Settles O8: the four cases of `writeCmd`, by BUSY and by the agent. -/
theorem commandWriteIssues : Obligations.CommandWriteIssues := by
  intro s v rest
  refine ⟨fun h => ⟨fun idle => ?_, fun busy => ?_⟩, fun h => ⟨fun idle => ?_, fun busy => ?_⟩⟩
  all_goals rw [step_write32_cmd h, State.writeCmd]
  case refine_1 | refine_3 => simp only [idle]; rfl
  case refine_2 | refine_4 => simp only [busy]; rfl

/-! ### CONFIGURE -/

/-- Where CONFIGURE leaves a configuration `cfg` and its completion with `code` to do, the whole command ends with them
(46_host_commands.md R332). -/
theorem configure_result {s : State} {cfg : Option DriverConfig} {code : ResultCode}
    (he : ∀ issued, exec .configure { s with pending := issued }
      = .next { s with pending := issued, cfg := cfg, todo := [.complete code] }) :
    exec .configure s = .next { s with cfg := cfg, todo := [.complete code] }
      ∧ (s.issued 0x01000000 → run 2 s = .next (State.ended { s with cfg := cfg } code)) := by
  refine ⟨he s.pending, fun hs => ?_⟩
  obtain ⟨hhost, hbusy, -, -⟩ := id hs
  exact run_issued (t := { s with pending := false, cfg := cfg }) hs (i := .configure) rfl (he false)
    ⟨hhost, hbusy, rfl⟩

/-- Settles O13: the three branches of CONFIGURE, in the order of R333. -/
theorem configureResult : Obligations.ConfigureResult := by
  intro s
  refine ⟨fun unset c staged => ?_, fun unset bad => ?_, fun configured => ?_⟩
  · exact configure_result fun _ => by simp only [exec, execConfigure, unset, staged]; rfl
  · exact configure_result (cfg := s.cfg) fun _ => by simp only [exec, execConfigure, unset, bad]; rfl
  · obtain ⟨c, hc⟩ := Option.isSome_iff_exists.mp configured
    exact configure_result (cfg := s.cfg) fun _ => by simp only [exec, execConfigure, hc]; rfl

/-! ### The previous frame -/

/-- Settles O18: the choices of `prevSource` in order (46_host_commands.md R335). -/
theorem previousFrameChoice : Obligations.PreviousFrameChoice := by
  intro s
  refine ⟨fun override => ?_, fun noOvr valid => ?_, fun noOvr empty full white => ?_,
    fun noOvr empty full reject => ?_, fun noOvr empty pass => ?_, fun _ => rfl⟩
  · simp [State.prevSource, override]
  · simp [State.prevSource, noOvr, valid]
  · simp [State.prevSource, noOvr, empty, full, white]
  · simp [State.prevSource, noOvr, empty, full, reject]
  · simp [State.prevSource, noOvr, empty, pass]

end Sys2Proof.Machine
end

section
/-! Proofs of the family 70_reset_and_hazards.md: the reset values (O48) and the reset of a running command (O49), the
updates of a block that is not set up (O50), that a sound state has a next step (O53), and the records that no step but a
reset forgets (O54). -/

namespace Sys2Proof.Machine

/-! ### Reset -/

/-- Settles O48: the registers' readings, the fields, then the pins and the buffers. -/
theorem resetValues : Obligations.ResetValues := by
  refine ⟨rfl, rfl, rfl, rfl, ?status, rfl, rfl, rfl, rfl, rfl, rfl, rfl, rfl, rfl, rfl, rfl, rfl,
    fun pin => rfl, fun offset => rfl⟩
  case status => decide

/-- A step with a reset next is that reset. -/
theorem step_reset {s : State} {calls : Nat} {rest : List HostAction} (h : s.host = .reset calls :: rest) :
    step s = .next (State.takeReset { s with host := rest } calls) := by
  simp [step, advance, h]

/-- A frame cut short changes the peer, the pins and the log at most. -/
theorem cutFrame_frame (s : State) (calls : Nat) :
    s.cutFrame calls =
      { s with
        peer := (s.cutFrame calls).peer
        pins := (s.cutFrame calls).pins
        logRev := (s.cutFrame calls).logRev } := by
  obtain e | ⟨cs, made, e⟩ := cutFrame_cases s calls <;> rw [e]
  exact frameRun_frame s cs made

/-- Where the block is not about to send a frame, a reset cuts none short. -/
theorem cutFrame_outside {s : State} (calls : Nat)
    (h : s.busy = false ∨ s.pending = true ∨ ∀ i ops, s.todo ≠ .send i :: ops) : s.cutFrame calls = s := by
  unfold State.cutFrame
  split
  · next i ops c running ht _ =>
    obtain ⟨hb, hp⟩ : s.busy = true ∧ s.pending = false := by simpa using running
    obtain idle | issued | noSend := h
    · rw [idle] at hb; cases hb
    · rw [issued] at hp; cases hp
    · exact absurd ht (noSend i ops)
  · rfl

/-- Where the block is about to send a frame, a reset lets it make the first calls of that frame (R400). -/
theorem cutFrame_sending {s : State} {i : Instr} {ops : List Op} {c : DriverConfig} (calls : Nat) (hb : s.busy = true)
    (hp : s.pending = false) (ht : s.todo = .send i :: ops) (hc : s.cfg = some c) :
    s.cutFrame calls = s.frameRun c.cs ((frameCalls (frameBytes s.params.headers i)).take calls) := by
  simp [State.cutFrame, hb, hp, ht, hc]

/-- Each call of a frame logs one event, so the first calls log the first events (40_transport.md R132). -/
theorem frameRun_take_log (s : State) (cs : PinId) (calls : List FrameCall) :
    ∃ es : List Event, es.length = calls.length ∧ ∀ n, (s.frameRun cs (calls.take n)).log = s.log ++ es.take n := by
  induction calls generalizing s with
  | nil => exact ⟨[], rfl, fun n => by simp [State.frameRun]⟩
  | cons call calls ih =>
    obtain ⟨e, first⟩ := frameCall_logs cs s call
    obtain ⟨es, len, others⟩ := ih (s.frameCall cs call)
    refine ⟨e :: es, congrArg Nat.succ len, fun n => ?_⟩
    cases n with
    | zero => exact (List.append_nil s.log).symm
    | succ n =>
      calc ((s.frameCall cs call).frameRun cs (calls.take n)).log
          = (s.frameCall cs call).log ++ es.take n := others n
        _ = s.log ++ (e :: es).take (n + 1) := by rw [first.log, List.append_assoc]; rfl

/-- The log of the first calls of a frame is the start of the frame's log. -/
theorem frameCalls_take_log (s : State) (cs : PinId) (bytes : List Byte) (n : Nat) :
    (s.frameRun cs ((frameCalls bytes).take n)).log = s.log ++ (frameLog s.params cs s.peer 0 bytes).take n := by
  obtain ⟨es, len, logs⟩ := frameRun_take_log s cs (frameCalls bytes)
  have whole : s.log ++ frameLog s.params cs s.peer 0 bytes = s.log ++ es := by
    have all := logs (frameCalls bytes).length
    rw [List.take_length, ← len, List.take_length] at all
    exact (sendFrame_log s cs bytes).symm.trans all
  rw [logs n, List.append_cancel_left whole]

/-- Settles O49: a reset sets every field at once; only the calls of a frame cut short (`cutFrame`) come before it. -/
theorem resetAbandons : Obligations.ResetAbandons := by
  intro s calls rest h
  refine ⟨_, step_reset h, ?_, fun outside => ?_, fun i ops c hb hp ht hc => ?_⟩
  · simp only [State.takeReset]
    rw [cutFrame_frame]
  · simp only [State.takeReset, cutFrame_outside (s := { s with host := rest }) calls outside, and_self]
  · have cut := cutFrame_sending (s := { s with host := rest }) calls hb hp ht hc
    exact (congrArg State.log cut).trans
      (frameCalls_take_log { s with host := rest } c.cs (frameBytes s.params.headers i) calls)

/-! ### Updates of a block that is not set up -/

/-- The words of the two updates decode to them, with OVR their bit 16, and an update starts by VALIDATING
(46_host_commands.md R330, R334). -/
theorem step_issued_update {s : State} {w : Word32} {kind : UpdateKind} (hs : s.issued w)
    (hw : (kind = .full ∧ w &&& 0xFFFEFFFF = 0x05000000) ∨ (kind = .partialPass ∧ w &&& 0xFFFEFFFF = 0x06000000)) :
    step s = .next (State.startUpdate { s with pending := false } kind (w.getLsbD 16)) := by
  obtain ⟨hhost, hbusy, hpending, rfl⟩ := hs
  obtain ⟨-, -, -, -, full, partialPass, -⟩ := commandWordsByMaskAndMatch s.command
  obtain ⟨rfl, hw⟩ | ⟨rfl, hw⟩ := hw
  · exact (step_of_no_host hhost).trans (blockStep_issued hbusy hpending (full.mpr hw))
  · exact (step_of_no_host hhost).trans (blockStep_issued hbusy hpending (partialPass.mpr hw))

/-- Settles O50: the update starts, and VALIDATING's check of what is missing ends it (O17). -/
theorem unreadyUpdateRejected : Obligations.UnreadyUpdateRejected := by
  refine ⟨rfl, rfl, fun s w kind hs hw => ?_⟩
  have starts := step_issued_update hs hw
  obtain ⟨hhost, hbusy, -, -⟩ := hs
  obtain ⟨noConfig, configured⟩ :=
    validationChecks (State.startUpdate { s with pending := false } kind (w.getLsbD 16)) ⟨hhost, hbusy, rfl⟩ rfl
  refine ⟨fun unset => (run_succ_of_next starts 2).trans (noConfig unset), fun hc noBudget hprev => ?_⟩
  obtain ⟨c, hc⟩ := Option.isSome_iff_exists.mp hc
  obtain ⟨-, rejects, -⟩ := configured c hc
  exact (run_succ_of_next starts 2).trans (rejects (Option.isSome_iff_ne_none.mp hprev) noBudget)

/-! ### A sound state has a next step -/

/-- A host command always has a next state (46_host_commands.md R332 to R334, 45_timing_policy.md R301 to R303). -/
theorem exec_command_next {i : Instr} (hi : i.isFrame = false) (s : State) : ∃ t, exec i s = .next t := by
  cases i with
  | configure =>
    simp only [exec, execConfigure]
    split
    · exact ⟨_, rfl⟩
    · split <;> exact ⟨_, rfl⟩
  | setTimingFixed => exact ⟨_, execSetTimingFixed_eq s⟩
  | setTimingBudget => exact ⟨_, execSetTimingBudget_eq s⟩
  | setTimingTemp | fullUpdate | partialUpdate => exact ⟨_, rfl⟩
  | cogIndex | cogData | cogRead | cogId | cogBlock | cogRowSmall | cogRowMedium | cogRowLarge => cases hi

/-- An issued word always has a next state: it is a command, or it is illegal (R330, R337). -/
theorem runCommand_next (s : State) : ∃ t, runCommand s = .next t := by
  obtain ⟨i, hd, e⟩ | ⟨r, -, e⟩ := runCommand_cases s <;> rw [e]
  · exact exec_command_next (decodeWord_isCommand hd) _
  · exact ⟨_, rfl⟩

/-- With a budget every stage has a goal (45_timing_policy.md R307). -/
theorem stageGoal_of_budget {s : State} (hb : s.budget ≠ .unset) : ∃ goal, s.stageGoal = some goal := by
  cases budget : s.budget with
  | unset => exact absurd budget hb
  | fixed n => exact ⟨_, by rw [State.stageGoal, budget]⟩
  | timeMs ms => exact ⟨_, stageGoal_of_timeMs budget s.work⟩

theorem runStageStart_next {s : State} (rest : List Op) (hb : s.budget ≠ .unset) :
    ∃ t, runStageStart rest s = .next t := by
  obtain ⟨goal, hg⟩ := stageGoal_of_budget hb
  cases goal with
  | sweeps n =>
    simp only [runStageStart, hg]
    split <;> exact ⟨_, rfl⟩
  | elapsed ms => exact ⟨_, runStageStart_elapsed rest hg⟩

theorem runSweepEnd_next {s : State} (rest : List Op) (hb : s.budget ≠ .unset) :
    ∃ t, runSweepEnd rest s = .next t := by
  obtain ⟨goal, hg⟩ := stageGoal_of_budget hb
  cases goal with
  | sweeps n => exact ⟨_, runSweepEnd_sweeps rest hg⟩
  | elapsed ms => exact ⟨_, runSweepEnd_elapsed rest hg⟩

/-- An update with a previous frame can evaluate and send every byte of a ROW frame (43_frame_renderer.md R250). -/
theorem runExchange_next {s : State} {prev : FrameSource} (c : DriverConfig) (src : ByteSource)
    (hp : s.prevSource = some prev) : ∃ t, runExchange c src s = .next t := by
  cases src with
  | const | scan => exact ⟨_, rfl⟩
  | even b | odd b =>
    simp only [runExchange, hp]
    exact ⟨_, rfl⟩

/-- What an update has after VALIDATING, its configuration, previous frame and budget, is all that its steps need. -/
theorem runOp_next {op : Op} {s : State} (rest : List Op) (hcfg : s.cfg.isSome = true)
    (hprev : s.prevSource.isSome = true) (hb : s.budget ≠ .unset) (hsend : ∀ i, op = .send i → i.isFrame = true) :
    ∃ t, runOp op rest s = .next t := by
  obtain ⟨c, hc⟩ := Option.isSome_iff_exists.mp hcfg
  obtain ⟨prev, hp⟩ := Option.isSome_iff_exists.mp hprev
  cases op with
  | send i => exact ⟨_, exec_frame_configured (hsend i rfl) hc⟩
  | stageStart => exact runStageStart_next rest hb
  | sweepEnd => exact runSweepEnd_next rest hb
  | exchange src =>
    obtain ⟨t, e⟩ := runExchange_next c src hp
    exact ⟨t, (withConfig_some hc _).trans e⟩
  | busyPoll | checkId | checkPanel | checkDc | rowStart | rowEnd | commit => exact ⟨_, withConfig_some hc _⟩
  | enter | validate | pinDir | pinWrite | delay | sessionBegin | sessionEnd => exact ⟨_, rfl⟩
  | chargeStart | renderStart | sweepStart | csAssert | csDeassert | complete => exact ⟨_, rfl⟩

/-- A sound state whose command was decoded is VALIDATING, about to complete, or updating (10_state.md R24). -/
theorem State.controlOk.of_decoded {s : State} (h : s.controlOk) (hb : s.busy = true) (hp : s.pending = false) :
    s.todo = [.validate] ∨ (∃ code, s.todo = [.complete code]) ∨ s.updating := by
  obtain ⟨idle, -⟩ | ⟨-, issued, -⟩ | ⟨-, -, ht, -⟩ | ⟨-, -, ht, -⟩ | ⟨-, -, updating⟩ := h
  · rw [idle] at hb; cases hb
  · rw [issued] at hp; cases hp
  · exact .inl ht
  · exact .inr (.inl ht)
  · exact .inr (.inr updating)

/-- A command that was decoded and has not completed has a step to do. -/
theorem State.controlOk.todo_ne_nil {s : State} (h : s.controlOk) (hb : s.busy = true) (hp : s.pending = false) :
    s.todo ≠ [] := by
  intro empty
  obtain ht | ⟨code, ht⟩ | ⟨-, -, -, frame, sound⟩ := h.of_decoded hb hp
  · cases empty.symm.trans ht
  · cases empty.symm.trans ht
  · rw [empty] at sound; cases sound

/-- Where the place in the sequence is sound, the block has a next step (70_reset_and_hazards.md R414). -/
theorem blockStep_next {s : State} (hc : s.controlOk) : ∃ t, blockStep s = .next t := by
  obtain ⟨-, e⟩ | ⟨-, -, e⟩ | ⟨hb, hp, ht, -⟩ | ⟨op, rest, hb, hp, ht, e⟩ := blockStep_cases s
  · exact ⟨s, e⟩
  · rw [e]; exact runCommand_next s
  · exact absurd ht (hc.todo_ne_nil hb hp)
  · rw [e]
    obtain validating | ⟨code, completing⟩ | ⟨hcfg, hprev, hbudget, -⟩ := hc.of_decoded hb hp
    · cases ht.symm.trans validating; exact ⟨_, rfl⟩
    · cases ht.symm.trans completing; exact ⟨_, rfl⟩
    · exact runOp_next (s := s.plan rest) rest hcfg hprev hbudget fun i hop => isFrame_of_controlOk hc hb hp (hop ▸ ht)

/-- Settles O53: a host action always has a next state, and a step of the block by `blockStep_next`. -/
theorem neverStuck : Obligations.NeverStuck := by
  intro s hi
  cases hh : s.host with
  | nil => rw [step_of_no_host hh]; exact blockStep_next hi.control
  | cons action rest =>
    cases action with
    | yield => rw [step_of_yield hh]; exact blockStep_next (s := { s with host := rest }) hi.control
    | access agent x => exact ⟨_, step_access hh⟩
    | wait => exact ⟨_, step_wait hh⟩
    | reset calls => exact ⟨_, step_reset hh⟩

/-! ### The records of broken duties and of reads -/

/-- Neither record is lost: each is as it was, or holds a later breach or read. -/
def KeepsRecords (s t : State) : Prop :=
  (t.hostFault = s.hostFault ∨ t.hostFault.isSome = true) ∧ (t.readFault = s.readFault ∨ t.readFault.isSome = true)

theorem keepsRecords_of_eq {s t : State} (hh : t.hostFault = s.hostFault) (hr : t.readFault = s.readFault) :
    KeepsRecords s t := ⟨.inl hh, .inl hr⟩

/-- No instruction writes a record: a frame reads no buffer. -/
theorem exec_keepsRecords {i : Instr} {s t : State} (h : exec i s = .next t) : KeepsRecords s t := by
  cases hi : i.isFrame with
  | true =>
    obtain ⟨c, r, -, rfl⟩ := exec_frame_next hi h
    rw [sendFrame_frame]
    exact keepsRecords_of_eq rfl rfl
  | false =>
    obtain ⟨code, rfl⟩ | ⟨c, -, -, rfl⟩ | ⟨b, -, rfl⟩ | ⟨kind, ovr, rfl⟩ := exec_command_cases hi h <;>
      exact keepsRecords_of_eq rfl rfl

theorem runOp_keepsRecords {op : Op} {rest : List Op} {s t : State} (h : runOp op rest s = .next t) :
    KeepsRecords s t := by
  by_cases hsend : ∃ i, op = .send i
  · obtain ⟨i, rfl⟩ := hsend
    exact exec_keepsRecords h
  · have k := runOp_keeps (fun i e => absurd ⟨i, e⟩ hsend) h
    exact ⟨.inl (by rw [k.frame]), k.record⟩

theorem blockStep_keepsRecords {s t : State} (h : blockStep s = .next t) : KeepsRecords s t := by
  obtain ⟨-, e⟩ | ⟨-, -, e⟩ | ⟨-, -, -, e⟩ | ⟨op, rest, -, -, -, e⟩ := blockStep_cases s <;> rw [e] at h
  · cases h; exact keepsRecords_of_eq rfl rfl
  · obtain ⟨i, -, e⟩ | ⟨r, -, e⟩ := runCommand_cases s <;> rw [e] at h
    · exact exec_keepsRecords (s := { s with pending := false }) h
    · cases h; exact keepsRecords_of_eq rfl rfl
  · cases h
  · exact runOp_keepsRecords (s := s.plan rest) h

/-- A host's byte write during an update is a breach of a duty (R412). -/
theorem writeBuffer_keepsRecords (s : State) (a : Nat) (v : Byte) : KeepsRecords s (s.writeBuffer a v) := by
  refine ⟨?_, .inl rfl⟩
  simp only [State.writeBuffer]
  split
  · exact .inr rfl
  · exact .inl rfl

theorem hostAccess_keepsRecords (agent : Agent) (x : Access) (s : State) : KeepsRecords s (hostAccess agent x s) := by
  obtain ⟨r, ⟨rf, hrf, e⟩ | ⟨o, v, e⟩ | ⟨a, v, -, e⟩⟩ := hostAccess_cases agent x s <;> rw [e]
  · exact ⟨.inl rfl, hrf⟩
  · obtain ⟨hf, hhf, ⟨-, e⟩ | ⟨g, e⟩⟩ := writeReg_cases s agent o v <;> rw [e] <;> exact ⟨hhf, .inl rfl⟩
  · exact writeBuffer_keepsRecords s a v

/-- What was recorded stays recorded where the record is as it was or holds a later one. -/
theorem isSome_of_kept {α : Type} {r r' : Option α} (kept : r' = r ∨ r'.isSome = true) (recorded : r.isSome = true) :
    r'.isSome = true := kept.elim (fun same => same ▸ recorded) id

/-- Settles O54: block steps and host accesses keep both records; the third kind of step is a reset. -/
theorem hostFaultSticky : Obligations.HostFaultSticky := by
  intro s t h
  have keeps : KeepsRecords s t ∨ s.resets := by
    obtain ⟨rest, hblock⟩ | ⟨agent, x, rest, rfl⟩ | ⟨calls, rest, hh, -⟩ := step_cases h
    · exact .inl (blockStep_keepsRecords (s := { s with host := rest }) hblock)
    · exact .inl (hostAccess_keepsRecords agent x { s with host := rest })
    · exact .inr ⟨calls, rest, hh⟩
  obtain ⟨host, read⟩ | resets := keeps
  · exact ⟨fun recorded => .inl (isSome_of_kept host recorded), fun recorded => .inl (isSome_of_kept read recorded)⟩
  · exact ⟨fun _ => .inr resets, fun _ => .inr resets⟩

end Sys2Proof.Machine
end
